-- ==== Sys2Proof/Word.lean ====
section
/-! DEFINITION. The word types of the three encodings (30_encoding.md R80): request words and micro words are
12 bits, the data lines of a bus transfer are 8. -/

namespace Sys2Proof

/-- A byte; bit 7 is the most significant (R9). -/
abbrev Byte := BitVec 8

/-- A request word or a micro word: 4 bits of operation code above 8 bits of operand (R81, R83). -/
abbrev Word12 := BitVec 12

/-- A word together with the port it is read at. The port decides which of the three encodings it is (R80): the
request port (format REQ), the micro-program store (format UW), the data lines of a write cycle with RS = 0
(format BUS). -/
inductive CodeWord where
  | req (w : Word12)
  | uw (w : Word12)
  | bus (b : Byte)
deriving DecidableEq, Repr

end Sys2Proof
end

