-- ==== Sys2Proof/Config.lean ====
section
/-! DEFINITION. The parameters of 00_scope.md R8, and the free values: constants with no body, of which nothing can
be proved. -/

namespace Sys2Proof.Config

/-- CODE_BOOT, sent three times by the bootstrap (R8, R95). -/
def codeBoot : Byte := 0x30
/-- CODE_FUNC (R8, R95). -/
def codeFunc : Byte := 0x38
/-- CODE_ENTRY (R8, R95). -/
def codeEntry : Byte := 0x06
/-- CODE_CLEAR (R8, R95). -/
def codeClear : Byte := 0x01
/-- CODE_DISP (R8, R95). -/
def codeDisp : Byte := 0x0F
/-- T_TICK, the argument of the delay call inside an enable pulse (R8, R114). -/
def tTick : BitVec 16 := 0
/-- The default of T_PACE, the argument of HOST's pacing delays (R8, R170); HOST's program takes it as an argument. -/
def tPace : BitVec 16 := 500
/-- T_SETTLE, T_BOOT1 and T_BOOT2: the arguments of INIT's three waits (R8, R160; log 25). -/
def tSettle : Byte := 30
def tBoot1 : Byte := 10
def tBoot2 : Byte := 1
/-- The defaults of RS_MASK, RW_MASK and EN_MASK on the control port (R59); the pin image takes the masks as an argument.
PRESUMED, log 21. -/
def rsMask : Nat := 0x20
def rwMask : Nat := 0x40
def enMask : Nat := 0x80
/-- The default of MSG, the fixed message of HOST's loop: `Hello` in ASCII (R171); HOST's program takes it as an argument.
PRESUMED, log 22. -/
def msg : List Byte := [0x48, 0x65, 0x6C, 0x6C, 0x6F]

/-- The byte agent LCD answers at a sample for which State lists no answer: under no law (R11 `SampleBus`). Log 7. -/
opaque freeSample : Nat → Byte
/-- Whether agent DELAY answers at a step for which State lists no choice: under no law (R11 `Wait`). Log 8. -/
opaque freeAnswer : Nat → Bool
/-- The levels and bytes that R35 leaves unspecified after reset, one for each reset. Log 16. -/
opaque resetRs : Nat → Bool
opaque resetRw : Nat → Bool
opaque resetEn : Nat → Bool
opaque resetDout : Nat → Byte
opaque resetStatus : Nat → Byte
opaque resetArg : Nat → Byte
opaque resetDlyN : Nat → BitVec 16

end Sys2Proof.Config
end

