-- ==== Sys2Proof/Syntax.lean ====
section
/-! DEFINITION. The instructions: one constructor per row of spec/opcode_table.json, and the types of their operands. -/

namespace Sys2Proof

/-- The three control lines (R26, R85): register-select, read/write, enable. -/
inductive Line where
  | rs | rw | en
deriving DecidableEq, Repr

/-- The Bus Direction (R25, R85): `input` is DIR = 0, `output` is DIR = 1. -/
inductive BusDir where
  | input | output
deriving DecidableEq, Repr

/-- The five phases of the protocol state machine, values 0 to 4 in this order (R24). -/
inductive Phase where
  | uninitialized | bootstrappingA | bootstrappingB | bootstrappingC | operational
deriving DecidableEq, Repr

/-- The place of a phase in the order of R24. -/
def Phase.index : Phase → Nat
  | .uninitialized => 0
  | .bootstrappingA => 1
  | .bootstrappingB => 2
  | .bootstrappingC => 3
  | .operational => 4

/-- One constructor per row of the opcode table: five requests (R82), twelve micro-operations (R84), five LCD command
bytes (R95). -/
inductive Instr where
  | init
  | cmdu (code : Byte)
  | await
  | cmd (code : Byte)
  | data (byte : Byte)
  | endOp
  | clken
  | cfgctl
  | dir (d : BusDir)
  | setLine (l : Line) (v : Bool)
  | pulse
  | wri (i : Byte)
  | wra
  | rdbus
  | brbusy (t : Byte)
  | delay (n : Byte)
  | phase (p : Phase)
  | lcdBoot8
  | lcdFunc
  | lcdEntry
  | lcdClear
  | lcdDispon
deriving DecidableEq, Repr

/-- The three encodings (R80). -/
inductive Format where
  | req | uw | bus
deriving DecidableEq, Repr

/-- The format of an instruction's row (R82, R84, R95). -/
def Instr.format : Instr → Format
  | .init => .req
  | .cmdu _ => .req
  | .await => .req
  | .cmd _ => .req
  | .data _ => .req
  | .endOp => .uw
  | .clken => .uw
  | .cfgctl => .uw
  | .dir _ => .uw
  | .setLine _ _ => .uw
  | .pulse => .uw
  | .wri _ => .uw
  | .wra => .uw
  | .rdbus => .uw
  | .brbusy _ => .uw
  | .delay _ => .uw
  | .phase _ => .uw
  | .lcdBoot8 => .bus
  | .lcdFunc => .bus
  | .lcdEntry => .bus
  | .lcdClear => .bus
  | .lcdDispon => .bus

end Sys2Proof
end

