-- ==== Sys2Proof/WellFormed.lean ====
section
/-! DEFINITION. What a well-formed instruction and a well-formed micro-program are (30_encoding.md R89,
41_sequencer_microops.md R130 to R133, 93_implementation_defined.md U1). -/

namespace Sys2Proof

/-- The largest index a branch may name: no micro-program is longer than INIT's, whose END stands at 70 (R29). -/
def lastIndex : Nat := 70

/-- An instruction's own operands are in range: BRBUSY's target lies before the END of the longest micro-program
(R29, R89), PHASE's operand is 1 to 4 (R133). Every other operand value is legal by its type. -/
def Instr.wf : Instr → Bool
  | .init => true
  | .cmdu _ => true
  | .await => true
  | .cmd _ => true
  | .data _ => true
  | .endOp => true
  | .clken => true
  | .cfgctl => true
  | .dir _ => true
  | .setLine _ _ => true
  | .pulse => true
  | .wri _ => true
  | .wra => true
  | .rdbus => true
  | .brbusy t => decide (t.toNat < lastIndex)
  | .delay _ => true
  | .phase p => decide (p ≠ .uninitialized)
  | .lcdBoot8 => true
  | .lcdFunc => true
  | .lcdEntry => true
  | .lcdClear => true
  | .lcdDispon => true

namespace MicroProgram

/-- Only micro-operations stand in a micro-program (R84). -/
def onlyMicro (p : List Instr) : Bool := p.all fun i => i.format == .uw

/-- END is the last element and occurs nowhere else (R130). -/
def endsOnce (p : List Instr) : Bool := p.getLast? == some .endOp && p.count .endOp == 1

/-- Every branch target lies before the END (R89). -/
def branchesInside (p : List Instr) : Bool :=
  p.all fun
    | .brbusy t => decide (t.toNat + 1 < p.length)
    | _ => true

/-- The bus direction after a micro-operation (R112). -/
def dirAfter (d : BusDir) : Instr → BusDir
  | .dir d' => d'
  | _ => d

/-- The bus direction in front of index `k` of a micro-program entered with direction `d`. -/
def dirAt (d : BusDir) (p : List Instr) (k : Nat) : BusDir := (p.take k).foldl dirAfter d

/-- With the bus at `now`, a micro-operation of the micro-program `p` entered with `d` has the direction it needs (R61, R115 to
R117, U1). DESIGN CHOICE, log 28: a branch must find at its target the direction it leaves, also where no bus access against
the direction would follow it. -/
def accessOk (d : BusDir) (p : List Instr) (now : BusDir) : Instr → Bool
  | .wri _ => now == .output
  | .wra => now == .output
  | .rdbus => now == .input
  | .brbusy t => dirAt d p t.toNat == now
  | _ => true

/-- `accessOk` along the rest of the micro-program. -/
def accessesOk (d : BusDir) (p : List Instr) : BusDir → List Instr → Bool
  | _, [] => true
  | now, i :: rest => accessOk d p now i && accessesOk d p (dirAfter now i) rest

/-- No bus access against the direction (U1), and no branch to a place with the other direction (DESIGN CHOICE, log 28). -/
def directionOk (d : BusDir) (p : List Instr) : Bool := accessesOk d p d p

/-- A micro-program that may be built for an operation entered with bus direction `d` (R89, R130, U1). -/
def wf (d : BusDir) (p : List Instr) : Bool :=
  onlyMicro p && endsOnce p && branchesInside p && directionOk d p

end MicroProgram

end Sys2Proof
end

