-- ==== Sys2Proof/Decode.lean ====
section
/-! DEFINITION. The three decoders, total on every word (30_encoding.md R94), and the encoder. -/

namespace Sys2Proof

/-- Why a word is no instruction (R88, R89, R95). -/
inductive Reject where
  /-- Request code 0x0 or 0x6 to 0xF (R88). -/
  | reservedRequest
  /-- A non-zero bit in an operand field that must be 0 (R88, R89). -/
  | operandNotZero
  /-- Micro-operation code 0xC to 0xF (R89). -/
  | reservedMicroOp
  /-- SET with l = 3 (R89). -/
  | reservedLine
  /-- PHASE with p above 4 (R89). -/
  | reservedPhase
  /-- A data byte that is none of the five command bytes of R95: carried all the same (R96). -/
  | notACommandByte
deriving DecidableEq, Repr

/-- Bits 11:8, the operation code (R81, R83). -/
def codeField (w : Word12) : BitVec 4 := w.extractLsb' 8 4

/-- Bits 7:0, the operand (R81, R83). -/
def operandField (w : Word12) : Byte := w.extractLsb' 0 8

/-- An instruction whose operand field must be 0x00. -/
def withoutOperand (b : Byte) (i : Instr) : Except Reject Instr :=
  if b = 0 then .ok i else .error .operandNotZero

/-- DIR: OPD[7:1] = 0, OPD[0] = d (R84, R85). -/
def decodeDir (b : Byte) : Except Reject Instr :=
  if b.extractLsb' 1 7 = 0 then .ok (.dir (if b.getLsbD 0 then .output else .input))
  else .error .operandNotZero

/-- SET: OPD[7:3] = 0, OPD[2:1] = l, OPD[0] = v (R84, R85). -/
def decodeSet (b : Byte) : Except Reject Instr :=
  if b.extractLsb' 3 5 = 0 then
    match (b.extractLsb' 1 2).toNat with
    | 0 => .ok (.setLine .rs (b.getLsbD 0))
    | 1 => .ok (.setLine .rw (b.getLsbD 0))
    | 2 => .ok (.setLine .en (b.getLsbD 0))
    | _ => .error .reservedLine
  else .error .operandNotZero

/-- PHASE: OPD[7:3] = 0, OPD[2:0] = p (R84, R85). -/
def decodePhase (b : Byte) : Except Reject Instr :=
  if b.extractLsb' 3 5 = 0 then
    match (b.extractLsb' 0 3).toNat with
    | 0 => .ok (.phase .uninitialized)
    | 1 => .ok (.phase .bootstrappingA)
    | 2 => .ok (.phase .bootstrappingB)
    | 3 => .ok (.phase .bootstrappingC)
    | 4 => .ok (.phase .operational)
    | _ => .error .reservedPhase
  else .error .operandNotZero

/-- Format REQ (R81, R82, R88). -/
def decodeReq (w : Word12) : Except Reject Instr :=
  match (codeField w).toNat with
  | 1 => withoutOperand (operandField w) .init
  | 2 => .ok (.cmdu (operandField w))
  | 3 => withoutOperand (operandField w) .await
  | 4 => .ok (.cmd (operandField w))
  | 5 => .ok (.data (operandField w))
  | _ => .error .reservedRequest

/-- Format UW (R83, R84, R89). -/
def decodeUw (w : Word12) : Except Reject Instr :=
  match (codeField w).toNat with
  | 0 => withoutOperand (operandField w) .endOp
  | 1 => withoutOperand (operandField w) .clken
  | 2 => withoutOperand (operandField w) .cfgctl
  | 3 => decodeDir (operandField w)
  | 4 => decodeSet (operandField w)
  | 5 => withoutOperand (operandField w) .pulse
  | 6 => .ok (.wri (operandField w))
  | 7 => withoutOperand (operandField w) .wra
  | 8 => withoutOperand (operandField w) .rdbus
  | 9 => .ok (.brbusy (operandField w))
  | 10 => .ok (.delay (operandField w))
  | 11 => decodePhase (operandField w)
  | _ => .error .reservedMicroOp

/-- Format BUS: the byte on the data lines of a command write, RS = 0 and RW = 0 (R87, R95). -/
def decodeBus (b : Byte) : Except Reject Instr :=
  match b.toNat with
  | 0x30 => .ok .lcdBoot8
  | 0x38 => .ok .lcdFunc
  | 0x06 => .ok .lcdEntry
  | 0x01 => .ok .lcdClear
  | 0x0F => .ok .lcdDispon
  | _ => .error .notACommandByte

/-- The decoder: the port a word is read at says which format it is (R80, R94). -/
def decode : CodeWord → Except Reject Instr
  | .req w => decodeReq w
  | .uw w => decodeUw w
  | .bus b => decodeBus b

/-- A 12-bit word from its two fields (R81, R83). -/
def word (code : BitVec 4) (operand : Byte) : Word12 := code ++ operand

/-- The sub-field d of DIR (R85). -/
def BusDir.bit : BusDir → Byte
  | .input => 0
  | .output => 1

/-- The sub-field l of SET, in its place OPD[2:1] (R84, R85). -/
def Line.bits : Line → Byte
  | .rs => 0
  | .rw => 2
  | .en => 4

/-- The sub-field p of PHASE (R85). -/
def Phase.bits : Phase → Byte
  | .uninitialized => 0
  | .bootstrappingA => 1
  | .bootstrappingB => 2
  | .bootstrappingC => 3
  | .operational => 4

/-- A level as the least significant bit of an operand (R85). -/
def levelBit (v : Bool) : Byte := if v then 1 else 0

/-- The encoder, from the tables R82, R84, R85 and R95. -/
def encode : Instr → CodeWord
  | .init => .req (word 0x1 0x00)
  | .cmdu c => .req (word 0x2 c)
  | .await => .req (word 0x3 0x00)
  | .cmd c => .req (word 0x4 c)
  | .data b => .req (word 0x5 b)
  | .endOp => .uw (word 0x0 0x00)
  | .clken => .uw (word 0x1 0x00)
  | .cfgctl => .uw (word 0x2 0x00)
  | .dir d => .uw (word 0x3 d.bit)
  | .setLine l v => .uw (word 0x4 (l.bits ||| levelBit v))
  | .pulse => .uw (word 0x5 0x00)
  | .wri i => .uw (word 0x6 i)
  | .wra => .uw (word 0x7 0x00)
  | .rdbus => .uw (word 0x8 0x00)
  | .brbusy t => .uw (word 0x9 t)
  | .delay n => .uw (word 0xA n)
  | .phase p => .uw (word 0xB p.bits)
  | .lcdBoot8 => .bus 0x30
  | .lcdFunc => .bus 0x38
  | .lcdEntry => .bus 0x06
  | .lcdClear => .bus 0x01
  | .lcdDispon => .bus 0x0F

/-- A word with no port named, as the opcode table lists it. At most 8 bits: format BUS. Otherwise the first 12 bits are
read as the request port reads them, and where they are no request, as a micro word. DESIGN CHOICE, log 19: formats REQ
and UW share bit patterns. A number that is no word is read as the reserved request 0x000. -/
def tableCodeWord (nbits w : Nat) : CodeWord :=
  if nbits ≤ 8 then
    if w < 256 then .bus (BitVec.ofNat 8 w) else .req 0x000
  else if w < 4096 then
    match decodeReq (BitVec.ofNat 12 w), decodeUw (BitVec.ofNat 12 w) with
    | .error _, .ok _ => .uw (BitVec.ofNat 12 w)
    | _, _ => .req (BitVec.ofNat 12 w)
  else .req 0x000

/-- The instruction the decoder reads from a table word (log 19). -/
def decodeTableWord (nbits w : Nat) : Option Instr := (decode (tableCodeWord nbits w)).toOption

end Sys2Proof
end

