-- ==== Sys2Proof/Machine/MicroProgram.lean ====
section
/-! DEFINITION. The micro-program store (20_memory.md R67): the listings of 42_protocol_operations.md R140 to R143 and
43_initialize.md R161, written with the pseudo-operations of 30_encoding.md R92, and how a micro-program is built from its
words: reserved words are rejected there, not at run time (R89). -/

namespace Sys2Proof.Machine

/-- Which micro-program runs, values 0 to 5 in this order (R29, R82). -/
inductive OpCode where
  | idle | init | cmdu | await | cmd | data
deriving DecidableEq, Repr

/-- The bus direction an operation is entered with: INIT starts from the reset state, the others from a configured bus
(R35, R187). -/
def OpCode.entryDir : OpCode → BusDir
  | .init => .input
  | _ => .output

/-! ### Building a micro-program -/

/-- Why a list of micro words is no micro-program (R89, R130, U1). -/
inductive BuildError where
  /-- A reserved micro word (R89). -/
  | reservedWord (r : Reject)
  /-- END is not the last element, or stands elsewhere too (R130). -/
  | endMisplaced
  /-- BRBUSY with a target at or beyond the END (R89). -/
  | branchPastEnd
  /-- A bus access against the direction (U1), or a branch to a place with the other direction (DESIGN CHOICE, log 28). -/
  | busDirection
deriving DecidableEq, Repr

/-- The micro decoder over a list of words, the first reserved word rejecting it all. -/
def decodeAll : List Word12 → Except Reject (List Instr)
  | [] => .ok []
  | w :: ws =>
    match decodeUw w, decodeAll ws with
    | .error r, _ => .error r
    | .ok _, .error r => .error r
    | .ok i, .ok p => .ok (i :: p)

/-- The micro-program of the words `ws` for an operation entered with bus direction `d`: rejected when it is built (R89, U1;
log 28). -/
def build (d : BusDir) (ws : List Word12) : Except BuildError (List Instr) :=
  match decodeAll ws with
  | .error r => .error (.reservedWord r)
  | .ok p =>
    if MicroProgram.endsOnce p = false then .error .endMisplaced
    else if MicroProgram.branchesInside p = false then .error .branchPastEnd
    else if MicroProgram.directionOk d p = false then .error .busDirection
    else .ok p

/-- The store: the built micro-program of each operation. -/
structure Rom where
  init  : List Instr
  cmdu  : List Instr
  await : List Instr
  cmd   : List Instr
  data  : List Instr
deriving DecidableEq, Repr

/-- The micro-program of an operation; IDLE has none. -/
def Rom.program (r : Rom) : OpCode → List Instr
  | .idle => []
  | .init => r.init
  | .cmdu => r.cmdu
  | .await => r.await
  | .cmd => r.cmd
  | .data => r.data

/-! ### The listings -/

/-- `WRITE rs, X`, the write cycle (R55, R92); `x` is the micro word of WRI or WRA. -/
def writeCycle (rs : Byte) (x : Word12) : List Word12 :=
  [word 0x4 rs, word 0x4 0x02, x, word 0x5 0x00]

/-- `POLLWIN base`, the body of AWAIT placed at index `base` (R92, R141). -/
def pollWindow (base : Byte) : List Word12 :=
  [word 0x3 0x00, word 0x4 0x00, word 0x4 0x03, word 0x5 0x00, word 0x8 0x00, word 0x9 (base + 3),
   word 0x4 0x02, word 0x3 0x01]

/-- Steps 1 to 4 of INIT, indices 0 to 21 (R160, R161). -/
def bootstrap : List Word12 :=
  [word 0x1 0x00, word 0x2 0x00, word 0x3 0x01, word 0xA Config.tSettle]
  ++ writeCycle 0 (word 0x6 Config.codeBoot) ++ [word 0xB 0x01, word 0xA Config.tBoot1]
  ++ writeCycle 0 (word 0x6 Config.codeBoot) ++ [word 0xB 0x02, word 0xA Config.tBoot2]
  ++ writeCycle 0 (word 0x6 Config.codeBoot) ++ [word 0xB 0x03, word 0xB 0x04]

/-- The micro-program of CMD with a constant byte, placed at index `base` (R161). -/
def polledCommand (base : Byte) (c : Byte) : List Word12 :=
  pollWindow base ++ writeCycle 0 (word 0x6 c)

/-- The listings of this block (R140 to R143, R161); IDLE has none. -/
def listing : OpCode → List Word12
  | .idle => []
  | .init => bootstrap ++ polledCommand 22 Config.codeFunc ++ polledCommand 34 Config.codeEntry
      ++ polledCommand 46 Config.codeClear ++ polledCommand 58 Config.codeDisp ++ [word 0x0 0x00]
  | .cmdu => writeCycle 0 (word 0x7 0x00) ++ [word 0x0 0x00]
  | .await => pollWindow 0 ++ [word 0x0 0x00]
  | .cmd => pollWindow 0 ++ writeCycle 0 (word 0x7 0x00) ++ [word 0x0 0x00]
  | .data => pollWindow 0 ++ writeCycle 1 (word 0x7 0x00) ++ [word 0x0 0x00]

/-- The micro-program built from an operation's listing; a listing that is rejected leaves none. -/
def built (o : OpCode) : List Instr :=
  match build o.entryDir (listing o) with
  | .ok p => p
  | .error _ => []

/-- The store of this block. -/
def Rom.standard : Rom where
  init := built .init
  cmdu := built .cmdu
  await := built .await
  cmd := built .cmd
  data := built .data

end Sys2Proof.Machine
end

