-- ==== Sys2Proof/Machine/State.lean ====
section
/-! DEFINITION. The state of the machine (10_state.md R20, R33, R35; INVENTORY.md `State`), the reasons a step stops, the
state after reset. -/

namespace Sys2Proof.Machine

/-- The sub-step inside PULSE (0, 1, 2) or DELAY (0, 1) (R29). -/
inductive SubStep where
  | zero | one | two
deriving DecidableEq, Repr

/-- The events of the trace (R12). -/
inductive Event where
  | clkEn
  | ctlCfg
  | dir (d : BusDir)
  | line (l : Line) (v : Bool)
  | bus (b : Byte)
  | sample (b : Byte)
  | delay (n : Nat)
  | phase (p : Phase)
deriving DecidableEq, Repr

/-- The entries of the transfer log XFER (R13): `W(rs, b)` and `R(rs, b)`. -/
inductive Transfer where
  | write (rs : Bool) (b : Byte)
  | read (rs : Bool) (b : Byte)
deriving DecidableEq, Repr

/-- Why an offered request is turned away (R186): V1, V2, V3, V4, V6. -/
inductive Reason where
  | uncheckedWhenOperational
  | notOperational
  | busNotConfigured
  | alreadyInitialized
  | reservedEncoding
deriving DecidableEq, Repr

/-- What HOST does next: offer a request word, or call the delay service itself (R170). -/
inductive HostMove where
  | request (w : Word12)
  | pause (n : BitVec 16)
deriving DecidableEq, Repr

/-- HOST's program: moves to make once, then moves to repeat for ever (none: HOST stops). Log 6. -/
structure HostProgram where
  todo : List HostMove
  loop : List HostMove
  /-- HOST offers its next request already while an operation runs, and the block holds it (R66); else HOST issues it only
  once BUSY_OUT = 0, as RUN does (R170). Log 6. -/
  early : Bool
deriving DecidableEq, Repr

/-- The state (R20, R33). The fields from `rom` on, but for `resetIn`, `host` and `hostPend`, are the model's own (INVENTORY.md). -/
@[ext]
structure State where
  /-- PHASE (R24). -/
  phase : Phase
  /-- PCLK_EN, bit 0 the data port's clock, bit 1 the control port's (R28). -/
  pclkEn : BitVec 2
  /-- CTRL_OE (R27). -/
  ctrlOe : Bool
  /-- RS, RW, EN, the levels of the control lines (R26). -/
  rs : Bool
  rw : Bool
  en : Bool
  /-- DIR, the Bus Direction (R25). -/
  dir : BusDir
  /-- DOUT, the bus output latch (R21). -/
  dout : Byte
  /-- STATUS, the sample latch (R22). -/
  status : Byte
  /-- ARG, the request operand latch (R23). -/
  arg : Byte
  /-- OP, UPC, SUB, the sequencer position (R29). -/
  op : OpCode
  upc : Nat
  sub : SubStep
  /-- DLY_PEND, a call to the delay service is outstanding (R20). -/
  dlyPend : Bool
  /-- DLY_N, the argument at the delay interface (R33, R132). -/
  dlyN : BitVec 16
  /-- TRACE, oldest event first (R12). -/
  trace : List Event
  /-- XFER, oldest entry first (R13). -/
  xfer : List Transfer
  /-- RESET, an input (R33, R210). Log 17. -/
  resetIn : Bool
  /-- HOST's position and program (R170). Log 6. -/
  host : HostProgram
  /-- HOST's own call of the delay service is outstanding (R170). Log 15. -/
  hostPend : Bool
  /-- The micro-program store, built from the listings (R67, R89). Log 3. -/
  rom : Rom
  /-- The pulse under way began with RW = 0, DIR = 1, CTRL_OE = 1 (R13). Log 11. -/
  pulseWrite : Bool
  /-- Transfers a pulse has latched and agent LCD has not yet taken, oldest first: RS and the byte. Log 10. -/
  latched : List (Bool × Byte)
  /-- The reasons reported to the model, oldest first (R185). Log 4. -/
  refusals : List Reason
  /-- The bytes agent LCD answers next; after them the answers are free values. Log 7. -/
  samples : List Byte
  /-- What agent DELAY does next, `true` to answer; after them the choices are free values. Log 8. -/
  answers : List Bool
  /-- How many free values have been drawn. Log 24. -/
  draws : Nat
deriving DecidableEq, Repr

/-- Why the machine stops. The block itself has no fault (R180, R182): these are model faults. -/
inductive Fault where
  /-- WRI or WRA with DIR = 0: "undefined/invalid" (R115, R116, U1). Raised by execWri and execWra. Safe: nothing is said
  of what hardware does. -/
  | busIsInput
  /-- RDBUS with DIR = 1: "undefined/invalid" (R117, U1). Raised by execRdbus. Safe. -/
  | busIsOutput
  /-- UPC names no micro-operation of the running micro-program; no run meets it (R29). Raised by engineStep. Safe. Log 18. -/
  | noMicroWord
  /-- DELAY at SUB = 2, a sub-step it does not have (R132); no run meets it. Raised by execDelay. Safe. Log 18. -/
  | noSubStep
deriving DecidableEq, Repr

/-- Why a word has no meaning. -/
inductive Refusal where
  /-- An instruction that has no meaning yet. Raised by exec. Safe. -/
  | notModelled (mnemonic : String)
deriving DecidableEq, Repr

/-- The state after power-up (R35). What R35 leaves unspecified is a free value (log 16); HOST offers nothing yet (log 19). -/
def State.reset : State where
  phase := .uninitialized
  pclkEn := 0
  ctrlOe := false
  rs := Config.resetRs 0
  rw := Config.resetRw 0
  en := Config.resetEn 0
  dir := .input
  dout := Config.resetDout 0
  status := Config.resetStatus 0
  arg := Config.resetArg 0
  op := .idle
  upc := 0
  sub := .zero
  dlyPend := false
  dlyN := Config.resetDlyN 0
  trace := []
  xfer := []
  resetIn := false
  host := ⟨[], [], false⟩
  hostPend := false
  rom := .standard
  pulseWrite := false
  latched := []
  refusals := []
  samples := []
  answers := []
  draws := 1

/-- What a meaning answers. -/
abbrev Result := Host.Outcome State Fault Refusal

end Sys2Proof.Machine
end

