-- ==== Sys2Proof/Machine/Flags.lean ====
section
/-! DEFINITION. The one flag (10_state.md R30, 30_encoding.md R93 (a)). -/

namespace Sys2Proof.Machine

/-- A status byte that says busy: bit 7 is 1 (R30). Bits 6 to 0 never enter (R22). -/
def isBusy (b : Byte) : Bool := b.getLsbD 7

/-- BUSY = STATUS[7] (R30). -/
def State.busyFlag (s : State) : Bool := isBusy s.status

end Sys2Proof.Machine
end

