-- ==== Sys2Proof/Machine/Operands.lean ====
section
/-! DEFINITION. The operand forms (30_encoding.md R86): every operand is an unsigned field used as it stands. -/

namespace Sys2Proof.Machine

/-- DELAY's argument, zero-extended to the width of DLY_N (R86, R93 (c)). -/
def delayArgument (n : Byte) : BitVec 16 := n.zeroExtend 16

/-- BRBUSY's target, an absolute index into the running micro-program (R86). -/
def branchTarget (t : Byte) : Nat := t.toNat

/-- The byte WRA drives: ARG, unchanged (R23, R96). -/
def State.argByte (s : State) : Byte := s.arg

/-- The argument of INIT and AWAIT, which take none (R81). -/
def noArgument : Byte := 0x00

end Sys2Proof.Machine
end

