-- ==== Sys2Proof/Machine/Ops.lean ====
section
/-! DEFINITION. The named operations the meanings are written with. The block takes no exception and returns from none
(60_exceptions.md R180, R183), so there is no exception entry here; what stands in its place is turning a request away
(R186). -/

namespace Sys2Proof.Machine

/-- `emit e` (R11). -/
def State.emit (s : State) (e : Event) : State := { s with trace := s.trace ++ [e] }

/-- `upc <- x[UPC] + 1`, on natural numbers (R10, R93 (b)). -/
def State.advance (s : State) : State := { s with upc := s.upc + 1 }

/-- `upc <- t` (R10). -/
def State.jump (s : State) (t : Nat) : State := { s with upc := t }

/-- `x[SUB] <- k`. -/
def State.setSub (s : State) (k : SubStep) : State := { s with sub := k }

/-- An enable pulse begun now is a write pulse (R13). -/
def State.writeSelected (s : State) : Bool := !s.rw && s.dir == .output && s.ctrlOe

/-- Drive EN. `Line(EN, 1)` opens an enable pulse; the fall that ends a write pulse hands RS and DOUT to agent LCD (R13, R26,
log 10). DESIGN CHOICE, log 11: a `Line(EN, 1)` while EN is already 1 begins the pulse anew, by RW, DIR and CTRL_OE then. -/
def State.driveEn (s : State) (v : Bool) : State :=
  { s with
    en := v
    pulseWrite := v && s.writeSelected
    latched := if !v && s.pulseWrite then s.latched ++ [(s.rs, s.dout)] else s.latched }

/-- `x[l] <- v` for a control line; the other two keep their levels (R26, R113). -/
def State.driveLine (s : State) (l : Line) (v : Bool) : State :=
  match l with
  | .rs => { s with rs := v }
  | .rw => { s with rw := v }
  | .en => s.driveEn v

/-- All three control lines become outputs at level 0 (R111); a pulse under way is over, with no Line event
(DESIGN CHOICE, log 11). -/
def State.configureControl (s : State) : State :=
  { s with rs := false, rw := false, en := false, ctrlOe := true, pulseWrite := false }

/-- Both port clocks on (R110). -/
def State.enableClocks (s : State) : State := { s with pclkEn := 0b11 }

/-- All eight data lines turn together; DOUT is kept (R25, R112). -/
def State.turnBus (s : State) (d : BusDir) : State := { s with dir := d }

/-- `Drive(b)` (R11): the output latch takes `b`. -/
def State.driveBus (s : State) (b : Byte) : State := ({ s with dout := b }).emit (.bus b)

/-- The byte agent LCD answers now: the next one State lists, or a free value (R11 `SampleBus`, log 7). -/
def State.nextSample (s : State) : Byte := s.samples.headD (Config.freeSample s.draws)

/-- `b <- SampleBus(); x[STATUS] <- b; emit Sample(b)`, and XFER gains `R(x[RS], b)` (R11, R13, R117). -/
def State.sampleBus (s : State) : State :=
  ({ s with
    status := s.nextSample
    xfer := s.xfer ++ [Transfer.read s.rs s.nextSample]
    samples := s.samples.tail
    draws := s.draws + 1 }).emit (.sample s.nextSample)

/-- The block calls the delay service with `n` (R11 `Wait`, R132; DLY_N inside PULSE: log 14). -/
def State.callDelay (s : State) (n : BitVec 16) : State :=
  ({ s with dlyN := n, dlyPend := true }).emit (.delay n.toNat)

/-- HOST calls the delay service with `n` (R170); DLY_PEND is the block's alone (log 15). -/
def State.hostCallDelay (s : State) (n : BitVec 16) : State :=
  ({ s with dlyN := n, hostPend := true }).emit (.delay n.toNat)

/-- What agent DELAY does now: the next choice State lists, or a free value (log 8). -/
def State.nextAnswer (s : State) : Bool := s.answers.headD (Config.freeAnswer s.draws)

/-- Agent DELAY's move on the block's call: it answers, or lets more time pass (R11, R132). -/
def State.delayMove (s : State) : State :=
  { s with dlyPend := s.dlyPend && !s.nextAnswer, answers := s.answers.tail, draws := s.draws + 1 }

/-- Agent DELAY's move on HOST's call (R170). -/
def State.hostDelayMove (s : State) : State :=
  { s with hostPend := s.hostPend && !s.nextAnswer, answers := s.answers.tail, draws := s.draws + 1 }

/-- `x[PHASE] <- p` (R133). -/
def State.enterPhase (s : State) (p : Phase) : State := { s with phase := p }

/-- The admission table (R187) with the order of reasons of R185: the first reason to turn the request away. -/
def State.objection (s : State) : OpCode → Option Reason
  | .idle => some .reservedEncoding
  | .init => if s.phase = .uninitialized then none else some .alreadyInitialized
  | .cmdu =>
    if s.phase = .operational then some .uncheckedWhenOperational
    else if s.ctrlOe = true ∧ s.dir = .output then none
    else some .busNotConfigured
  | .await => if s.phase = .operational then none else some .notOperational
  | .cmd => if s.phase = .operational then none else some .notOperational
  | .data => if s.phase = .operational then none else some .notOperational

/-- `x[OP] <- r[11:8]; x[ARG] <- r[7:0]; x[UPC] <- 0; x[SUB] <- 0` (R135). -/
def State.accept (s : State) (o : OpCode) (a : Byte) : State :=
  { s with op := o, arg := a, upc := 0, sub := .zero }

/-- A refusal changes nothing and appends no event; the reason is reported to the model (R135, R185, R186, log 4). -/
def State.turnAway (s : State) (r : Reason) : State := { s with refusals := s.refusals ++ [r] }

/-- A request at the port (R135): accepted or turned away at the idle block, held while another runs (R66, log 5). -/
def State.offer (s : State) (o : OpCode) (a : Byte) : State :=
  if s.op = .idle then
    match s.objection o with
    | none => s.accept o a
    | some r => s.turnAway r
  else s

/-- `x[OP] <- IDLE; x[UPC] <- 0; x[SUB] <- 0` (R130). -/
def State.finish (s : State) : State := { s with op := .idle, upc := 0, sub := .zero }

/-- A byte reaches the controller: XFER gains `W(rs, b)` (R13, R56; log 10). -/
def State.receive (s : State) (rs : Bool) (b : Byte) : State :=
  { s with xfer := s.xfer ++ [Transfer.write rs b] }

/-- RESET: the block takes the values of R35 whatever was running; the environment is kept (R210, logs 16 and 17). -/
def State.powerUp (s : State) : State :=
  { s with
    phase := .uninitialized
    pclkEn := 0
    ctrlOe := false
    rs := Config.resetRs s.draws
    rw := Config.resetRw s.draws
    en := Config.resetEn s.draws
    dir := .input
    dout := Config.resetDout s.draws
    status := Config.resetStatus s.draws
    arg := Config.resetArg s.draws
    op := .idle
    upc := 0
    sub := .zero
    dlyPend := false
    dlyN := Config.resetDlyN s.draws
    trace := []
    xfer := []
    resetIn := false
    pulseWrite := false
    latched := []
    refusals := []
    draws := s.draws + 1 }

end Sys2Proof.Machine
end

