-- ==== Sys2Proof/Machine/LcdCommands.lean ====
section
/-! DEFINITION. The five LCD command bytes (30_encoding.md R95), carried out by agent LCD: a byte latched with RS = 0 and
RW = 0 reaches the controller's command register. The block does not interpret it, and what it does to the glass is out of
scope (R5, R51; log 20). -/

namespace Sys2Proof.Machine

/-- LCD.BOOT8, 0x30 (R95). -/
def execLcdBoot8 (s : State) : Result := .next (s.receive false Config.codeBoot)

/-- LCD.FUNC, 0x38 (R95). -/
def execLcdFunc (s : State) : Result := .next (s.receive false Config.codeFunc)

/-- LCD.ENTRY, 0x06 (R95). -/
def execLcdEntry (s : State) : Result := .next (s.receive false Config.codeEntry)

/-- LCD.CLEAR, 0x01 (R95). -/
def execLcdClear (s : State) : Result := .next (s.receive false Config.codeClear)

/-- LCD.DISPON, 0x0F (R95). -/
def execLcdDispon (s : State) : Result := .next (s.receive false Config.codeDisp)

end Sys2Proof.Machine
end

