-- ==== Sys2Proof/Machine/Pins.lean ====
section
/-! DEFINITION. The pin and port primitives (40_pin_port_primitives.md R110 to R118). Of the preconditions only the bus
direction stops the machine ("undefined/invalid", U1; log 13); the others hold in every micro-program and are not checked
(log 12; Safety.lean states them). -/

namespace Sys2Proof.Machine

/-- CLKEN (R110). -/
def execClken (s : State) : Result := .next (s.enableClocks.emit .clkEn).advance

/-- CFGCTL (R111). -/
def execCfgctl (s : State) : Result := .next (s.configureControl.emit .ctlCfg).advance

/-- DIR d (R112). -/
def execDir (d : BusDir) (s : State) : Result := .next ((s.turnBus d).emit (.dir d)).advance

/-- SET l,v (R113). -/
def execSetLine (l : Line) (v : Bool) (s : State) : Result :=
  .next ((s.driveLine l v).emit (.line l v)).advance

/-- PULSE (R114), one sub-step; at SUB = 2 it waits while DLY_PEND = 1. -/
def execPulse (s : State) : Result :=
  match s.sub with
  | .zero => .next (((s.driveEn true).emit (.line .en true)).setSub .one)
  | .one => .next ((s.callDelay Config.tTick).setSub .two)
  | .two =>
    if s.dlyPend then .next s
    else .next ((((s.driveEn false).emit (.line .en false)).setSub .zero).advance)

/-- WRI i (R115). -/
def execWri (i : Byte) (s : State) : Result :=
  match s.dir with
  | .output => .next (s.driveBus i).advance
  | .input => .fault .busIsInput

/-- WRA (R116). -/
def execWra (s : State) : Result :=
  match s.dir with
  | .output => .next (s.driveBus s.argByte).advance
  | .input => .fault .busIsInput

/-- RDBUS (R117). -/
def execRdbus (s : State) : Result :=
  match s.dir with
  | .input => .next s.sampleBus.advance
  | .output => .fault .busIsOutput

end Sys2Proof.Machine
end

