-- ==== Sys2Proof/Machine/Requests.lean ====
section
/-! DEFINITION. The five requests (42_protocol_operations.md R140 to R143, 43_initialize.md R160): what offering one to the
block does (R135). An accepted request then runs as its micro-program, one step of agent ENGINE at a time. -/

namespace Sys2Proof.Machine

/-- INIT (R160). -/
def execInit (s : State) : Result := .next (s.offer .init noArgument)

/-- CMDU c (R140). -/
def execCmdu (c : Byte) (s : State) : Result := .next (s.offer .cmdu c)

/-- AWAIT (R141). -/
def execAwait (s : State) : Result := .next (s.offer .await noArgument)

/-- CMD c (R142). -/
def execCmd (c : Byte) (s : State) : Result := .next (s.offer .cmd c)

/-- DATA b (R143). -/
def execData (b : Byte) (s : State) : Result := .next (s.offer .data b)

end Sys2Proof.Machine
end

