-- ==== Sys2Proof/Machine/Sequencer.lean ====
section
/-! DEFINITION. The sequencer micro-operations (41_sequencer_microops.md R130 to R133). -/

namespace Sys2Proof.Machine

/-- END (R130). -/
def execEnd (s : State) : Result := .next s.finish

/-- BRBUSY t (R131). -/
def execBrbusy (t : Byte) (s : State) : Result :=
  .next (s.jump (if s.busyFlag then branchTarget t else s.upc + 1))

/-- DELAY n (R132), one sub-step; at SUB = 1 it waits while DLY_PEND = 1. -/
def execDelay (n : Byte) (s : State) : Result :=
  match s.sub with
  | .zero => .next ((s.callDelay (delayArgument n)).setSub .one)
  | .one => if s.dlyPend then .next s else .next (s.setSub .zero).advance
  | .two => .fault .noSubStep

/-- PHASE p (R133). -/
def execPhase (p : Phase) (s : State) : Result := .next ((s.enterPhase p).emit (.phase p)).advance

end Sys2Proof.Machine
end

