-- ==== Sys2Proof/Machine/Dispatch.lean ====
section
/-! DEFINITION. One arm per constructor of Instr. -/

namespace Sys2Proof.Machine

def exec (i : Instr) (s : State) : Host.Outcome State Fault Refusal :=
  match i with
  | .init => Sys2Proof.Machine.execInit s
  | .cmdu code => Sys2Proof.Machine.execCmdu code s
  | .await => Sys2Proof.Machine.execAwait s
  | .cmd code => Sys2Proof.Machine.execCmd code s
  | .data byte => Sys2Proof.Machine.execData byte s
  | .endOp => Sys2Proof.Machine.execEnd s
  | .clken => Sys2Proof.Machine.execClken s
  | .cfgctl => Sys2Proof.Machine.execCfgctl s
  | .dir d => Sys2Proof.Machine.execDir d s
  | .setLine l v => Sys2Proof.Machine.execSetLine l v s
  | .pulse => Sys2Proof.Machine.execPulse s
  | .wri b => Sys2Proof.Machine.execWri b s
  | .wra => Sys2Proof.Machine.execWra s
  | .rdbus => Sys2Proof.Machine.execRdbus s
  | .brbusy t => Sys2Proof.Machine.execBrbusy t s
  | .delay n => Sys2Proof.Machine.execDelay n s
  | .phase p => Sys2Proof.Machine.execPhase p s
  | .lcdBoot8 => Sys2Proof.Machine.execLcdBoot8 s
  | .lcdFunc => Sys2Proof.Machine.execLcdFunc s
  | .lcdEntry => Sys2Proof.Machine.execLcdEntry s
  | .lcdClear => Sys2Proof.Machine.execLcdClear s
  | .lcdDispon => Sys2Proof.Machine.execLcdDispon s

end Sys2Proof.Machine
end

