-- ==== Sys2Proof/Machine/Agents.lean ====
section
/-! DEFINITION. The steps of the agents (00_scope.md R6) that Step.lean puts together: how each reads its next word and
runs it. -/

namespace Sys2Proof.Machine

/-- The micro-operation at (OP, UPC) (R54, R67, R134): what the micro word there was built to. -/
def State.current (s : State) : Option Instr :=
  match (s.rom.program s.op)[s.upc]? with
  | some i => if i.format = .uw then some i else none
  | none => none

/-- The micro-operation waits for agent DELAY, so ENGINE has no step (R134). -/
def State.waitsAt (s : State) : Instr → Bool
  | .pulse => s.dlyPend && s.sub == .two
  | .delay _ => s.dlyPend && s.sub == .one
  | _ => false

/-- ENGINE's step, or agent DELAY's where ENGINE waits (R134). -/
def engineStep (s : State) : Result :=
  match s.current with
  | none => .fault .noMicroWord
  | some i => if s.waitsAt i then .next s.delayMove else exec i s

/-- Agent LCD's step: it takes a latched transfer. A byte with RS = 0 is read as a command; a byte that is none of the five
of R95, or a character (RS = 1), reaches the controller all the same (R51, R96). -/
def lcdStep (rs : Bool) (b : Byte) (s : State) : Result :=
  if rs then .next (s.receive rs b)
  else
    match decodeBus b with
    | .ok i => exec i s
    | .error _ => .next (s.receive rs b)

/-- HOST's next move and its program after it (log 6). -/
def HostProgram.next (h : HostProgram) : Option (HostMove × HostProgram) :=
  match h.todo, h.loop with
  | m :: rest, l => some (m, ⟨rest, l, h.early⟩)
  | [], m :: rest => some (m, ⟨rest, m :: rest, h.early⟩)
  | [], [] => none

/-- HOST makes a move at the idle block (R135, R170). -/
def hostMove (m : HostMove) (s : State) : Result :=
  match m with
  | .pause n => .next (s.hostCallDelay n)
  | .request w =>
    match decodeReq w with
    | .ok i => exec i s
    | .error _ => .next (s.turnAway .reservedEncoding)

/-- HOST's step; while its own delay call is outstanding, agent DELAY's; nothing where HOST offers nothing (R170, log 9). -/
def hostStep (s : State) : Result :=
  if s.hostPend then .next s.hostDelayMove
  else
    match s.host.next with
    | none => .next s
    | some (m, h) => hostMove m { s with host := h }

/-- The agent that moves next (log 9): LCD where a transfer is latched, ENGINE where an operation runs, else HOST. -/
def agentStep (s : State) : Result :=
  match s.latched with
  | (rs, b) :: rest => lcdStep rs b { s with latched := rest }
  | [] => if s.op = .idle then hostStep s else engineStep s

/-- A micro-program around the word `w` of `i`, and the index of `w` in it (log 19): DIR out stands in front of a bus write,
CLKEN behind a branch up to its target. -/
def around (w : Word12) : Instr → List Word12 × Nat
  | .endOp => ([w], 0)
  | .wri _ => ([0x301, w, 0x000], 1)
  | .wra => ([0x301, w, 0x000], 1)
  | .brbusy t => (w :: (List.replicate t.toNat 0x100 ++ [0x000]), 0)
  | _ => ([w, 0x000], 0)

/-- INIT's micro-program becomes the one built from `ws`, entered at index `k`; nothing is placed where it is rejected (R89). -/
def State.placeProgram (s : State) (ws : List Word12) (k : Nat) : State :=
  match build OpCode.init.entryDir ws with
  | .error _ => s
  | .ok p =>
    { s with op := .init, upc := k, sub := .zero, latched := [], resetIn := false, rom := { s.rom with init := p } }

/-- `s` with a word placed where the next step reads it (log 19): a request in front of HOST's moves at the idle block, a
micro word in a micro-program built around it as INIT's and running, a bus byte as the transfer latched with RS = 0. -/
def State.placeWord (s : State) : CodeWord → State
  | .req w =>
    { s with
      op := .idle, latched := [], resetIn := false, hostPend := false
      host := { s.host with todo := .request w :: s.host.todo } }
  | .uw w =>
    match decodeUw w with
    | .error _ => s
    | .ok i => s.placeProgram (around w i).1 (around w i).2
  | .bus b => { s with latched := [(false, b)], resetIn := false }

end Sys2Proof.Machine
end

