-- ==== Sys2Proof/Machine/Step.lean ====
section
/-! DEFINITION. One step of the machine, and where a word is placed for it. -/

namespace Sys2Proof.Machine

/-- One step: RESET if it is asserted (R210), else one step of one agent (R6, R62, R134, R185; log 9). -/
def step (s : State) : Host.Outcome State Fault Refusal :=
  if s.resetIn then .next s.powerUp else agentStep s

/-- `s` with the table word `w` of `nbits` bits placed where the next step reads its word (log 19). -/
def State.withFetchWord (s : State) (nbits w : Nat) : State := s.placeWord (tableCodeWord nbits w)

end Sys2Proof.Machine
end

