-- ==== Sys2Proof/Machine/HostPrograms.lean ====
section
/-! DEFINITION. HOST's reference program RUN (44_application_loop.md R170, R171). It runs on agent HOST, not in the block. -/

namespace Sys2Proof.Machine

/-- The moves of one iteration with the parameters MSG and T_PACE: each character by DATA, a pause, the clear by CMD, a pause
(R8, R170). -/
def runIteration (msg : List Byte) (pace : BitVec 16) : List HostMove :=
  msg.map (fun ch => .request (word 0x5 ch)) ++
    [.pause pace, .request (word 0x4 Config.codeClear), .pause pace]

/-- `run()`: INIT, then the iteration for ever, each request issued only once BUSY_OUT = 0 (R170). -/
def runProgram (msg : List Byte) (pace : BitVec 16) : HostProgram :=
  ⟨[.request (word 0x1 0x00)], runIteration msg pace, false⟩

/-- `run()` with the defaults of R8. -/
def runDefault : HostProgram := runProgram Config.msg Config.tPace

end Sys2Proof.Machine
end

