-- ==== Sys2Proof/Machine/Signals.lean ====
section
/-! DEFINITION. The interface signals (10_state.md R33) read off the state, and the pin image (20_memory.md R52, R59). -/

namespace Sys2Proof.Machine

/-- BUSY_OUT: 1 exactly when OP is not IDLE (R33). -/
def State.busyOut (s : State) : Bool := s.op != .idle

/-- HOST issues its next request: it waits for no delay of its own, and either no operation runs (BUSY_OUT = 0) or HOST is one
that offers early (R66, R170; log 6). -/
def State.hostIssues (s : State) : Bool := !s.hostPend && (!s.busyOut || s.host.early)

/-- The request word HOST offers now (R33, R170). -/
def State.reqWord (s : State) : Option Word12 :=
  if !s.hostIssues then none
  else
    match s.host.next with
    | some (.request w, _) => some w
    | _ => none

/-- REQ_VALID (R33). -/
def State.reqValid (s : State) : Bool := s.reqWord.isSome

/-- The operation and the argument a request asks for (R81, R82); no other instruction asks for one. -/
def requestOf : Instr → Option (OpCode × Byte)
  | .init => some (.init, noArgument)
  | .cmdu c => some (.cmdu, c)
  | .await => some (.await, noArgument)
  | .cmd c => some (.cmd, c)
  | .data b => some (.data, b)
  | _ => none

/-- The request word would be admitted (R135, R187). -/
def State.admits (s : State) (w : Word12) : Bool :=
  match decodeReq w with
  | .ok i =>
    match requestOf i with
    | some (o, _) => (s.objection o).isNone
    | none => false
  | .error _ => false

/-- REQ_READY: 1 exactly when the offered request would be accepted (R33). -/
def State.reqReady (s : State) : Bool :=
  match s.reqWord with
  | some w => s.op == .idle && s.admits w
  | none => false

/-- LCD_RS, LCD_RW, LCD_EN: driven only while CTRL_OE = 1 (R27, R33). -/
def State.lcdLine (s : State) (l : Line) : Option Bool :=
  if s.ctrlOe then
    match l with
    | .rs => some s.rs
    | .rw => some s.rw
    | .en => some s.en
  else none

/-- LCD_D as the block drives it: DOUT while DIR = 1, nothing while DIR = 0 (R21, R25, R33). -/
def State.lcdData (s : State) : Option Byte :=
  match s.dir with
  | .output => some s.dout
  | .input => none

/-- DLY_REQ, a delay call with argument DLY_N (R33, R196). DESIGN CHOICE, log 27: a level held for the whole of the block's
outstanding call, until DLY_ACK. -/
def State.dlyReq (s : State) : Bool := s.dlyPend

/-- The masks of the three control lines on the control port, parameters of the pin layer (R8, R59, D14). -/
structure PinMasks where
  rs : Nat
  rw : Nat
  en : Nat
deriving DecidableEq, Repr

/-- The defaults of R59. -/
def PinMasks.standard : PinMasks := ⟨Config.rsMask, Config.rwMask, Config.enMask⟩

/-- What the block shows on a port: the bits it drives, and those of them at level 1. -/
structure PortImage where
  driven : Nat
  high : Nat
deriving DecidableEq, Repr

/-- The control port by the masks `m`; no rule of the protocol reads it (R32 (c), R59). DESIGN CHOICE, log 21: the spec gives
neither the port's width nor its other bits, so the image has no width and says nothing of a bit that no mask names. -/
def State.controlPort (s : State) (m : PinMasks) : PortImage :=
  if s.ctrlOe then
    ⟨m.rs ||| m.rw ||| m.en, (if s.rs then m.rs else 0) ||| (if s.rw then m.rw else 0) ||| (if s.en then m.en else 0)⟩
  else ⟨0, 0⟩

end Sys2Proof.Machine
end

