-- ==== Sys2Proof/Safety.lean ====
section
/-! DEFINITION. What a safe run is: the preconditions of the micro-operations, the view of the trace, and the invariant that
every step keeps. -/

namespace Sys2Proof.Machine

/-- `n` steps of the machine. -/
def runSteps (n : Nat) (s : State) : Result := Host.Core.run Sys2Proof.core n s

/-! ### Preconditions -/

/-- XFER with the transfers agent LCD has still to take. -/
def State.log (s : State) : List Transfer := s.xfer ++ s.latched.map fun p => .write p.1 p.2

/-- RS, RW and DIR are at the levels of a transfer of the running operation (R50, R55, R57): a write, to the data register
exactly in DATA, or a status read. The corner RS = 1, RW = 1 is none. -/
def State.transferSelected (s : State) : Bool :=
  (!s.rw && s.dir == .output && s.rs == (s.op == .data)) || (s.rw && s.dir == .input && !s.rs)

/-- The preconditions the rules R110 to R117 and R130 to R133 give a micro-operation. PULSE's is that of its sub-step 0, and
EN = 1 after it; BRBUSY's ("an RDBUS has run", "just before") is that the log ends with the status read STATUS holds. -/
def precondition (s : State) : Instr → Bool
  | .dir _ => !s.en
  | .setLine .rs _ => s.ctrlOe && !s.en
  | .setLine .rw _ => s.ctrlOe && !s.en
  | .setLine .en _ => s.ctrlOe
  | .pulse => s.ctrlOe && s.transferSelected && (if s.sub = .zero then !s.en else s.en)
  | .wri _ => s.dir == .output && !s.en
  | .wra => s.dir == .output && !s.en
  | .rdbus => s.dir == .input && !s.en
  | .brbusy _ => s.log.getLast? == some (.read false s.status)
  | .delay _ => !s.en
  | .phase p => s.phase.index + 1 == p.index
  | .endOp => !s.en && !s.rw && s.dir == .output && !s.dlyPend
  | _ => true

/-! ### XFER as a view of TRACE -/

/-- What an observer of the trace knows of the pins, and the transfers seen so far (R13). -/
structure PinView where
  ctrlOe : Bool
  dir : BusDir
  rs : Bool
  rw : Bool
  dout : Byte
  pulseWrite : Bool
  log : List Transfer
deriving DecidableEq, Repr

/-- What one event tells the observer (R12, R13; CFGCTL and a second `Line(EN, 1)` inside a pulse: log 11). -/
def PinView.see (v : PinView) : Event → PinView
  | .clkEn => v
  | .ctlCfg => { v with ctrlOe := true, rs := false, rw := false, pulseWrite := false }
  | .dir d => { v with dir := d }
  | .line .rs l => { v with rs := l }
  | .line .rw l => { v with rw := l }
  | .line .en true => { v with pulseWrite := !v.rw && v.dir == .output && v.ctrlOe }
  | .line .en false =>
    { v with pulseWrite := false, log := if v.pulseWrite then v.log ++ [.write v.rs v.dout] else v.log }
  | .bus b => { v with dout := b }
  | .sample b => { v with log := v.log ++ [.read v.rs b] }
  | .delay _ => v
  | .phase _ => v

/-- The view of a whole trace, from a view of the pins before it. -/
def PinView.ofTrace (v : PinView) (es : List Event) : PinView := es.foldl PinView.see v

/-- The observer's view of the state itself. -/
def State.view (s : State) : PinView :=
  { ctrlOe := s.ctrlOe, dir := s.dir, rs := s.rs, rw := s.rw, dout := s.dout, pulseWrite := s.pulseWrite, log := s.log }

/-- The trace, read from the view `v` before it, gives the pins and XFER of the state (R13). -/
def State.Tracked (v : PinView) (s : State) : Prop := v.ofTrace s.trace = s.view

/-! ### The invariant -/

/-- Every `W` entry after the third is immediately preceded by an `R(0, b)` with `b[7] = 0` (R63). -/
def Guarded (log : List Transfer) : Prop :=
  ∀ (n : Nat) (rs : Bool) (b : Byte), log[n + 3]? = some (.write rs b) →
    ∃ a : Byte, log[n + 2]? = some (.read false a) ∧ isBusy a = false

/-- What the transfer log ends with. -/
inductive Heard where
  /-- Nothing is known. -/
  | nothing
  /-- The status read that STATUS holds. -/
  | sampled
  /-- A status read with bit 7 = 0. -/
  | ready
deriving DecidableEq, Repr

/-- What holds in front of a position of a micro-program. -/
structure Expect where
  phase : Phase
  clocked : Bool
  ctrlOe : Bool
  dir : BusDir
  rs : Option Bool
  rw : Bool
  writes : Nat
  heard : Heard
deriving DecidableEq, Repr

/-- What holds where an operation is entered (R187): INIT from the reset state, the others from Operational. -/
def Expect.entry : OpCode → Expect
  | .init => ⟨.uninitialized, false, false, .input, none, false, 0, .nothing⟩
  | _ => ⟨.operational, true, true, .output, none, false, 3, .nothing⟩

/-- What holds after a micro-operation, BRBUSY falling through. -/
def Expect.after (e : Expect) : Instr → Expect
  | .clken => { e with clocked := true }
  | .cfgctl => { e with ctrlOe := true, rs := some false, rw := false }
  | .dir d => { e with dir := d }
  | .setLine .rs v => { e with rs := some v }
  | .setLine .rw v => { e with rw := v }
  | .phase p => { e with phase := p }
  | .rdbus => { e with heard := .sampled }
  | .brbusy _ => { e with heard := .ready }
  | .pulse =>
    { e with
      writes := if !e.rw && e.dir == .output && e.ctrlOe then min 3 (e.writes + 1) else e.writes
      heard := .nothing }
  | _ => e

/-- What holds in front of index `k` of an operation's micro-program. -/
def expectAt (o : OpCode) (k : Nat) : Expect :=
  ((Rom.standard.program o).take k).foldl Expect.after (.entry o)

/-- The state is as expected. RS, RW and PCLK_EN are held to it where they are known; `writes` counts up to three. -/
structure Expect.Holds (e : Expect) (s : State) : Prop where
  phase : s.phase = e.phase
  clocked : e.clocked = true → s.pclkEn = 0b11
  ctrlOe : s.ctrlOe = e.ctrlOe
  dir : s.dir = e.dir
  rs : ∀ v, e.rs = some v → s.rs = v
  rw : e.ctrlOe = true → s.rw = e.rw
  writes : min 3 s.log.length = e.writes
  sampled : e.heard = .sampled → s.log.getLast? = some (.read false s.status)
  ready : e.heard = .ready → ∃ a, s.log.getLast? = some (.read false a) ∧ isBusy a = false

/-- EN is 0 where the control pins are driven, and no pulse is under way. -/
def State.Quiet (s : State) : Prop := s.pulseWrite = false ∧ (s.ctrlOe = true → s.en = false)

/-- The sub-step fits the micro-operation (R114, R132). -/
def State.SubFits (s : State) (i : Instr) : Prop :=
  (s.sub = .zero ∧ s.dlyPend = false ∧ s.Quiet) ∨
  (s.sub = .one ∧ i = .pulse ∧ s.dlyPend = false ∧ s.en = true ∧ s.pulseWrite = s.writeSelected) ∨
  (s.sub = .two ∧ i = .pulse ∧ s.en = true ∧ s.pulseWrite = s.writeSelected) ∨
  (s.sub = .one ∧ (∃ n, i = .delay n) ∧ s.Quiet)

/-- The idle block (R34, R35, R214): as after reset, or as after INIT. -/
structure State.IdleOk (s : State) : Prop where
  upc : s.upc = 0
  sub : s.sub = .zero
  dlyPend : s.dlyPend = false
  quiet : s.Quiet
  place : (s.phase = .uninitialized ∧ s.ctrlOe = false ∧ s.dir = .input ∧ s.log = []) ∨
    (s.phase = .operational ∧ s.pclkEn = 0b11 ∧ s.ctrlOe = true ∧ s.dir = .output ∧ s.rw = false ∧ 3 ≤ s.log.length)

/-- The block running an operation other than CMDU: the position fits the micro-program. -/
structure State.RunningOk (s : State) : Prop where
  notCmdu : s.op ≠ .cmdu
  position : ∃ i, s.current = some i ∧ s.SubFits i
  expected : (expectAt s.op s.upc).Holds s

/-- The invariant: the store is the spec's, the writes are guarded, the pins and the log fit the sequencer position. -/
structure State.Inv (s : State) : Prop where
  rom : s.rom = .standard
  guarded : Guarded s.log
  idle : s.op = .idle → s.IdleOk
  running : s.op ≠ .idle → s.RunningOk

/-! ### Whole operations -/

/-- HOST offers the request word `w` to the idle block, and goes on with `h` (R33, R135). -/
structure State.Offered (s : State) (w : Word12) (h : HostProgram) : Prop where
  resetIn : s.resetIn = false
  latched : s.latched = []
  op : s.op = .idle
  hostPend : s.hostPend = false
  move : s.host.next = some (.request w, h)

/-- ENGINE, and no other agent, moves next: no RESET, no transfer to take, an operation running (R134). -/
structure State.EngineTurn (s : State) : Prop where
  resetIn : s.resetIn = false
  latched : s.latched = []
  op : s.op ≠ .idle

/-- Agent DELAY's choices when it lets `ms` steps pass before it answers each of the calls, in turn. -/
def answersAfter (ms : List Nat) : List Bool := ms.flatMap fun m => List.replicate m false ++ [true]

/-- A poll window's samples: at least one, all busy but the last, which is ready (R131, R141). -/
def PollsUntilReady (bs : List Byte) : Prop :=
  ∃ busy b, bs = busy ++ [b] ∧ (∀ x ∈ busy, isBusy x = true) ∧ isBusy b = false

/-- The events of a poll window with the samples `bs` (R141). -/
def pollEvents (bs : List Byte) : List Event :=
  [.dir .input, .line .rs false, .line .rw true] ++
    bs.flatMap (fun b => [.line .en true, .delay 0, .line .en false, .sample b]) ++
    [.line .rw false, .dir .output]

/-- The events of a write cycle (R55). -/
def writeEvents (rs : Bool) (b : Byte) : List Event :=
  [.line .rs rs, .line .rw false, .bus b, .line .en true, .delay 0, .line .en false]

/-- The entries of XFER a poll window adds (R13, R141). -/
def pollEntries (bs : List Byte) : List Transfer := bs.map (.read false)

/-- The indices of the PULSE that opens the poll cycle: one in AWAIT, CMD and DATA, four in INIT (R131). -/
def pollStarts : OpCode → List Nat
  | .idle => []
  | .init => [25, 37, 49, 61]
  | .cmdu => []
  | .await => [3]
  | .cmd => [3]
  | .data => [3]

/-- The block is in a poll loop, of AWAIT, CMD, DATA or INIT, and what it last sampled was busy (R182). -/
structure State.InPollLoop (s : State) : Prop where
  rom : s.rom = .standard
  place : ∃ k ∈ pollStarts s.op,
    s.upc = k ∨ (s.upc = k + 1 ∧ s.sub = .zero) ∨ (s.upc = k + 2 ∧ s.sub = .zero ∧ s.busyFlag = true)
  dir : s.dir = .input
  rs : s.rs = false
  rw : s.rw = true
  pulseWrite : s.pulseWrite = false
  resetIn : s.resetIn = false
  latched : s.latched = []

end Sys2Proof.Machine
end

