-- ==== Sys2Proof/Certificates/Slice0/Obligations.lean ====
section
/-! DEFINITION. The statements for the provers. -/

open Sys2Proof Sys2Proof.Machine

/-! ### Encodings -/

/-- No bit of an encoding is dropped (R82, R84, R85, R95). -/
def Obligations.DecodeOfEncode : Prop := ∀ i : Instr, decode (encode i) = .ok i

/-- Each word at each port has at most one meaning, the encoder's (R94). -/
def Obligations.EncodeOfDecode : Prop := ∀ (c : CodeWord) (i : Instr), decode c = .ok i → encode i = c

/-- Words written out from the spec's listings and vectors decode to the instructions they stand for. -/
def Obligations.ListedWordsDecode : Prop :=
  decode (.req 0x100) = .ok .init ∧ decode (.req 0x230) = .ok (.cmdu 0x30) ∧ decode (.req 0x548) = .ok (.data 0x48) ∧
  decode (.uw 0x301) = .ok (.dir .output) ∧ decode (.uw 0x403) = .ok (.setLine .rw true) ∧
  decode (.uw 0x404) = .ok (.setLine .en false) ∧ decode (.uw 0xA1E) = .ok (.delay 30) ∧
  decode (.uw 0x919) = .ok (.brbusy 25) ∧ decode (.uw 0xB04) = .ok (.phase .operational) ∧
  decode (.bus 0x0F) = .ok .lcdDispon

/-- R88: a reserved request word offered to the idle block is refused with V6: REQ_READY is 0, nothing changes, no event is
appended. What HOST does next is left open here. (That "reason V6" is an entry of `refusals`: log 4.) -/
def Obligations.ReservedRequestWordsRefused : Prop :=
  ∀ (s : State) (w : Word12) (h : HostProgram), s.Offered w h →
    ((w.extractLsb' 8 4).toNat = 0 ∨ 6 ≤ (w.extractLsb' 8 4).toNat ∨
      (((w.extractLsb' 8 4).toNat = 1 ∨ (w.extractLsb' 8 4).toNat = 3) ∧ w.extractLsb' 0 8 ≠ 0)) →
    s.reqReady = false ∧
    ∃ t, step s = .next t ∧ t = { s with host := t.host, refusals := s.refusals ++ [.reservedEncoding] }

/-- The micro-decoder rejects exactly the words R89 reserves (its clause on BRBUSY's target is about a micro-program:
BuiltProgramsAreWellFormed). -/
def Obligations.ReservedMicroWordsRejected : Prop :=
  ∀ w : Word12, (decodeUw w).toOption = none ↔
    (12 ≤ (w.extractLsb' 8 4).toNat ∨
      ((w.extractLsb' 8 4).toNat ∈ [0, 1, 2, 5, 7, 8] ∧ w.extractLsb' 0 8 ≠ 0) ∨
      ((w.extractLsb' 8 4).toNat = 3 ∧ w.extractLsb' 1 7 ≠ 0) ∨
      ((w.extractLsb' 8 4).toNat = 4 ∧ (w.extractLsb' 3 5 ≠ 0 ∨ w.extractLsb' 1 2 = 3)) ∨
      ((w.extractLsb' 8 4).toNat = 11 ∧ (w.extractLsb' 3 5 ≠ 0 ∨ 5 ≤ (w.extractLsb' 0 3).toNat)))

/-- Reserved micro words are rejected when a micro-program is built (R89): of words one of which the micro-decoder rejects
nothing is built, whatever else they hold; what is built is the words decoded one by one, has every branch target before its
END and no END elsewhere (R130), and no bus access against the direction (U1). Words that decode to a micro-program with
these properties are built, but for one the model rejects too: a BRBUSY whose target has the other direction (DESIGN CHOICE,
log 28). -/
def Obligations.BuiltProgramsAreWellFormed : Prop :=
  ∀ (d : BusDir) (ws : List Word12),
    ((∃ w ∈ ws, (decodeUw w).toOption = none) → ∃ r, build d ws = .error (.reservedWord r)) ∧
    (∀ p : List Instr, build d ws = .ok p ↔ (ws.map decodeUw = p.map .ok ∧ MicroProgram.wf d p = true)) ∧
    (∀ p : List Instr, build d ws = .ok p →
      (∀ k : Nat, p[k]? = some .endOp ↔ k + 1 = p.length) ∧
      (∀ (k : Nat) (t : Byte), p[k]? = some (.brbusy t) → t.toNat + 1 < p.length))

/-- The listings are those of R140 to R143 and R161, each is built, and the store holds what was built (R67, R89). -/
def Obligations.MicroProgramsAreTheListings : Prop :=
  listing .cmdu = [0x400, 0x402, 0x700, 0x500, 0x000] ∧
  listing .await = [0x300, 0x400, 0x403, 0x500, 0x800, 0x903, 0x402, 0x301, 0x000] ∧
  listing .cmd =
    [0x300, 0x400, 0x403, 0x500, 0x800, 0x903, 0x402, 0x301, 0x400, 0x402, 0x700, 0x500, 0x000] ∧
  listing .data =
    [0x300, 0x400, 0x403, 0x500, 0x800, 0x903, 0x402, 0x301, 0x401, 0x402, 0x700, 0x500, 0x000] ∧
  listing .init =
    [0x100, 0x200, 0x301, 0xA1E] ++
    [0x400, 0x402, 0x630, 0x500, 0xB01, 0xA0A] ++
    [0x400, 0x402, 0x630, 0x500, 0xB02, 0xA01] ++
    [0x400, 0x402, 0x630, 0x500, 0xB03, 0xB04] ++
    [0x300, 0x400, 0x403, 0x500, 0x800, 0x919, 0x402, 0x301, 0x400, 0x402, 0x638, 0x500] ++
    [0x300, 0x400, 0x403, 0x500, 0x800, 0x925, 0x402, 0x301, 0x400, 0x402, 0x606, 0x500] ++
    [0x300, 0x400, 0x403, 0x500, 0x800, 0x931, 0x402, 0x301, 0x400, 0x402, 0x601, 0x500] ++
    [0x300, 0x400, 0x403, 0x500, 0x800, 0x93D, 0x402, 0x301, 0x400, 0x402, 0x60F, 0x500] ++ [0x000] ∧
  ∀ o : OpCode, o ≠ .idle →
    build (if o = .init then .input else .output) (listing o) = .ok (Rom.standard.program o) ∧
    (Rom.standard.program o).all Instr.wf = true

/-! ### A step runs the decoded word -/

/-- A request word offered to the idle block is decoded and executed (R94, R135). HOST moves on in that step, also where the
offer is turned away: that is the model's, logs 4 and 9. -/
def Obligations.RequestStepRunsDecoded : Prop :=
  ∀ (s : State) (w : Word12) (h : HostProgram) (i : Instr), s.Offered w h → decode (.req w) = .ok i →
    step s = exec i { s with host := h }

/-- Where the micro-program of OP is built from the words `ws`, the word at index UPC is decoded and executed; where it waits
on the delay service, agent DELAY moves instead (R89, R134). -/
def Obligations.EngineStepRunsDecoded : Prop :=
  ∀ (s : State) (ws : List Word12) (w : Word12) (i : Instr), s.EngineTurn →
    build (if s.op = .init then .input else .output) ws = .ok (s.rom.program s.op) → ws[s.upc]? = some w →
    decode (.uw w) = .ok i →
    ((s.dlyPend = true ∧ ((i = .pulse ∧ s.sub = .two) ∨ (∃ n, i = .delay n) ∧ s.sub = .one)) →
      step s = .next s.delayMove) ∧
    (¬ (s.dlyPend = true ∧ ((i = .pulse ∧ s.sub = .two) ∨ (∃ n, i = .delay n) ∧ s.sub = .one)) →
      step s = exec i s)

/-- A byte latched with RS = 0 that is an LCD command byte is executed as that command, with the transfer taken (R87, R95;
that agent LCD takes it in a step of its own is the model's, log 10). -/
def Obligations.LcdStepRunsDecoded : Prop :=
  ∀ (s : State) (b : Byte) (rest : List (Bool × Byte)) (i : Instr), s.resetIn = false →
    s.latched = (false, b) :: rest → decode (.bus b) = .ok i →
    step s = exec i { s with latched := rest }

/-- A table word placed by withFetchWord is the one the very next step runs (the model's, log 19). -/
def Obligations.PlacedTableWordIsRun : Prop :=
  ∀ (s : State) (nbits w : Nat) (i : Instr), decodeTableWord nbits w = some i →
    step (s.withFetchWord nbits w) = exec i
      (match tableCodeWord nbits w with
       | .req _ => { s with op := .idle, latched := [], resetIn := false, hostPend := false }
       | .uw u => s.placeWord (.uw u)
       | .bus _ => { s with latched := [], resetIn := false })

/-! ### Requests -/

/-- An admitted request is accepted: OP, ARG, UPC and SUB are written, nothing else changes and no event is appended
(R81, R135, R187). -/
def Obligations.AdmittedRequestsAccepted : Prop :=
  ∀ (s : State) (b : Byte), s.op = .idle →
    (s.phase = .uninitialized →
      exec .init s = .next { s with op := .init, arg := 0, upc := 0, sub := .zero }) ∧
    (s.phase ≠ .operational ∧ s.ctrlOe = true ∧ s.dir = .output →
      exec (.cmdu b) s = .next { s with op := .cmdu, arg := b, upc := 0, sub := .zero }) ∧
    (s.phase = .operational →
      exec .await s = .next { s with op := .await, arg := 0, upc := 0, sub := .zero } ∧
      exec (.cmd b) s = .next { s with op := .cmd, arg := b, upc := 0, sub := .zero } ∧
      exec (.data b) s = .next { s with op := .data, arg := b, upc := 0, sub := .zero })

/-- A request that is not admitted is turned away with the reason of R186: no state of the block changes, no event is
appended (that the reason is kept in `refusals` is the model's, log 4). -/
def Obligations.RefusedRequestsChangeNothing : Prop :=
  ∀ (s : State) (b : Byte), s.op = .idle →
    (s.phase ≠ .uninitialized → exec .init s = .next { s with refusals := s.refusals ++ [.alreadyInitialized] }) ∧
    (s.phase = .operational →
      exec (.cmdu b) s = .next { s with refusals := s.refusals ++ [.uncheckedWhenOperational] }) ∧
    (s.phase ≠ .operational ∧ (s.ctrlOe = false ∨ s.dir = .input) →
      exec (.cmdu b) s = .next { s with refusals := s.refusals ++ [.busNotConfigured] }) ∧
    (s.phase ≠ .operational →
      exec .await s = .next { s with refusals := s.refusals ++ [.notOperational] } ∧
      exec (.cmd b) s = .next { s with refusals := s.refusals ++ [.notOperational] } ∧
      exec (.data b) s = .next { s with refusals := s.refusals ++ [.notOperational] })

/-- While an operation runs, no step accepts, refuses or drops an offer, and ARG does not change (R23, R66): HOST stays
where it is, and what it offers now it offers until the operation is over. -/
def Obligations.OffersHeldWhileRunning : Prop :=
  ∀ s t : State, s.op ≠ .idle → s.resetIn = false → step s = .next t →
    t.host = s.host ∧ t.hostPend = s.hostPend ∧ t.arg = s.arg ∧ t.refusals = s.refusals ∧ s.reqReady = false ∧
    (t.op ≠ .idle → t.reqWord = s.reqWord)

/-- REQ_READY is 1 exactly when the offered request would be accepted (R33). -/
def Obligations.ReqReadyMeansAccepted : Prop :=
  ∀ (s : State) (w : Word12) (h : HostProgram), s.Offered w h →
    (s.reqReady = true ↔ ∃ t, step s = .next t ∧ t.op ≠ .idle)

/-- As a host request CMDU is never admitted from an idle state of a run (R140): V3 before INIT, V1 after. (That the turning
away is a next state with the reason appended to `refusals` is the model's, log 4.) -/
def Obligations.UncheckedCommandNeverAdmittedIdle : Prop :=
  ∀ (s : State) (c : Byte), s.Inv → s.op = .idle →
    (s.phase = .uninitialized ∧ exec (.cmdu c) s = .next { s with refusals := s.refusals ++ [.busNotConfigured] }) ∨
    (s.phase = .operational ∧
      exec (.cmdu c) s = .next { s with refusals := s.refusals ++ [.uncheckedWhenOperational] })

/-! ### Micro-operations -/

/-- R110: CLKEN sets both clock enables and appends ClkEn, also where they are already set; it occurs once, at INIT index 0. -/
def Obligations.ClkenEnablesBothClocks : Prop :=
  decode (.uw 0x100) = .ok .clken ∧
  (∀ s : State, exec .clken s =
    .next { s with pclkEn := 0b11, trace := s.trace ++ [.clkEn], upc := s.upc + 1 }) ∧
  (∀ (o : OpCode) (k : Nat), (Rom.standard.program o)[k]? = some .clken ↔ o = .init ∧ k = 0)

/-- R111: CFGCTL makes the control pins outputs at level 0, with one event and no Line events; it occurs once, at INIT
index 1. (What becomes of a pulse under way is left open here: log 11.) -/
def Obligations.CfgctlDrivesLinesLow : Prop :=
  decode (.uw 0x200) = .ok .cfgctl ∧
  (∀ s : State, ∃ t, exec .cfgctl s = .next t ∧
    t = { s with rs := false, rw := false, en := false, ctrlOe := true, trace := s.trace ++ [.ctlCfg], upc := s.upc + 1,
                 pulseWrite := t.pulseWrite }) ∧
  (∀ (o : OpCode) (k : Nat), (Rom.standard.program o)[k]? = some .cfgctl ↔ o = .init ∧ k = 1)

/-- R112: DIR turns all eight lines, keeps DOUT and every other element, appends its event; a second DIR with the same
direction changes nothing but the event and the position. In every micro-program SET RW,0 stands in front of DIR out (at INIT
index 2 CFGCTL, which drives RW to 0 too); in every run EN = 0 at DIR, and RW = 0 at DIR out. -/
def Obligations.DirTurnsBus : Prop :=
  decode (.uw 0x300) = .ok (.dir .input) ∧ decode (.uw 0x301) = .ok (.dir .output) ∧
  (∀ (s : State) (d : BusDir), ∃ t,
    exec (.dir d) s = .next t ∧
    t = { s with dir := d, trace := s.trace ++ [.dir d], upc := s.upc + 1 } ∧
    exec (.dir d) t = .next { t with trace := t.trace ++ [.dir d], upc := t.upc + 1 }) ∧
  (∀ (o : OpCode) (k : Nat), (Rom.standard.program o)[k]? = some (.dir .output) →
    ∃ j, k = j + 1 ∧ ((Rom.standard.program o)[j]? = some (.setLine .rw false) ∨
      (o = .init ∧ k = 2 ∧ (Rom.standard.program o)[j]? = some .cfgctl))) ∧
  (∀ (s : State) (d : BusDir), s.Inv → s.op ≠ .idle → s.current = some (.dir d) →
    s.en = false ∧ (d = .output → s.rw = false))

/-- R113: SET drives one line; the other two keep their levels and the event is appended whatever level the line had. No
micro-program uses SET EN; l = 3 is reserved; the precondition holds in every run. (What SET EN does to the transfer under
way: SetEnableIsAnEdge.) -/
def Obligations.SetLineDrivesOneLine : Prop :=
  (decode (.uw 0x400) = .ok (.setLine .rs false) ∧ decode (.uw 0x401) = .ok (.setLine .rs true) ∧
    decode (.uw 0x402) = .ok (.setLine .rw false) ∧ decode (.uw 0x403) = .ok (.setLine .rw true) ∧
    decode (.uw 0x404) = .ok (.setLine .en false) ∧ decode (.uw 0x405) = .ok (.setLine .en true) ∧
    decode (.uw 0x406) = .error .reservedLine ∧ decode (.uw 0x407) = .error .reservedLine) ∧
  (∀ (s : State) (v : Bool),
    exec (.setLine .rs v) s =
      .next { s with rs := v, trace := s.trace ++ [.line .rs v], upc := s.upc + 1 } ∧
    exec (.setLine .rw v) s =
      .next { s with rw := v, trace := s.trace ++ [.line .rw v], upc := s.upc + 1 } ∧
    ∃ t, exec (.setLine .en v) s = .next t ∧
      t = { s with en := v, trace := s.trace ++ [.line .en v], upc := s.upc + 1,
                   pulseWrite := t.pulseWrite, latched := t.latched }) ∧
  (∀ (o : OpCode) (k : Nat) (v : Bool), (Rom.standard.program o)[k]? ≠ some (.setLine .en v)) ∧
  (∀ (s : State) (l : Line) (v : Bool), s.Inv → s.op ≠ .idle → s.current = some (.setLine l v) →
    s.ctrlOe = true ∧ (l ≠ .en → s.en = false))

/-- SET EN,v drives the enable line alone, and is one edge of an enable pulse: SET EN,1 opens it (where EN is already 1, anew:
log 11), the fall that ends a pulse begun with RW = 0, DIR = 1, CTRL_OE = 1 hands (RS, DOUT) to agent LCD (R13, R113; logs 10
and 11). -/
def Obligations.SetEnableIsAnEdge : Prop :=
  ∀ s : State,
    exec (.setLine .en true) s =
      .next { s with en := true, pulseWrite := (!s.rw && s.dir == .output && s.ctrlOe),
                     trace := s.trace ++ [.line .en true], upc := s.upc + 1 } ∧
    exec (.setLine .en false) s =
      .next { s with en := false, pulseWrite := false,
                     latched := s.latched ++ (if s.pulseWrite then [(s.rs, s.dout)] else []),
                     trace := s.trace ++ [.line .en false], upc := s.upc + 1 }

/-- PULSE, sub-step by sub-step (R114): EN, the delay call, SUB and UPC. At SUB = 2 with DLY_PEND = 1 nothing changes. The
model's own: the tick's 0 on DLY_N (log 14), `pulseWrite`, which says what kind of pulse it is (log 11), and that the fall
leaves the transfer in `latched` for agent LCD, with XFER as it was (log 10). -/
def Obligations.PulseSubSteps : Prop :=
  ∀ s : State,
    (s.sub = .zero → exec .pulse s =
      .next { s with en := true, pulseWrite := (!s.rw && s.dir == .output && s.ctrlOe),
                     trace := s.trace ++ [.line .en true], sub := .one }) ∧
    (s.sub = .one → exec .pulse s =
      .next { s with dlyN := 0, dlyPend := true, trace := s.trace ++ [.delay 0], sub := .two }) ∧
    (s.sub = .two ∧ s.dlyPend = true → exec .pulse s = .next s) ∧
    (s.sub = .two ∧ s.dlyPend = false → exec .pulse s =
      .next { s with en := false, pulseWrite := false,
                     latched := s.latched ++ (if s.pulseWrite then [(s.rs, s.dout)] else []),
                     trace := s.trace ++ [.line .en false], sub := .zero, upc := s.upc + 1 })

/-- An enable pulse with RW = 0 and DIR = 1 puts exactly the byte on the lines into XFER; with RW = 1 and DIR = 0 it puts
nothing there (R13, R56, R114), however many steps `m` agent DELAY lets pass. Steps: three of ENGINE, `m + 1` of DELAY, one of
LCD for a write (log 10). (DLY_N: log 14; `draws`: logs 8 and 24.) -/
def Obligations.PulseLatchesOneTransfer : Prop :=
  ∀ (s : State) (m : Nat) (more : List Bool), s.EngineTurn → s.current = some .pulse → s.sub = .zero →
    s.dlyPend = false → s.ctrlOe = true → s.answers = answersAfter [m] ++ more →
    (s.rw = false ∧ s.dir = .output →
      runSteps (m + 5) s = .next { s with
        en := false, pulseWrite := false, dlyN := 0, answers := more, draws := s.draws + (m + 1), upc := s.upc + 1,
        trace := s.trace ++ [.line .en true, .delay 0, .line .en false],
        xfer := s.xfer ++ [.write s.rs s.dout] }) ∧
    (s.rw = true ∧ s.dir = .input →
      runSteps (m + 4) s = .next { s with
        en := false, pulseWrite := false, dlyN := 0, answers := more, draws := s.draws + (m + 1), upc := s.upc + 1,
        trace := s.trace ++ [.line .en true, .delay 0, .line .en false] })

/-- In effect PULSE equals SET EN,1; DELAY 0; SET EN,0 (R92, R114): with the delay call answered in between, the two end in
the same state but for the two more positions passed. -/
def Obligations.PulseEqualsSetDelaySet : Prop :=
  ∀ s : State, s.sub = .zero → s.dlyPend = false →
    ∃ p₁ p₂ p₃ q₁ q₂ q₃ q₄ : State,
      exec .pulse s = .next p₁ ∧ exec .pulse p₁ = .next p₂ ∧ exec .pulse { p₂ with dlyPend := false } = .next p₃ ∧
      exec (.setLine .en true) s = .next q₁ ∧ exec (.delay 0) q₁ = .next q₂ ∧
      exec (.delay 0) { q₂ with dlyPend := false } = .next q₃ ∧ exec (.setLine .en false) q₃ = .next q₄ ∧
      q₄ = { p₃ with upc := p₃.upc + 2 }

/-- WRI and WRA drive the byte, unchanged, while the bus is an output (R115, R116, R96). -/
def Obligations.WriteBusDrivesByte : Prop :=
  ∀ (s : State) (b : Byte), s.dir = .output →
    exec (.wri b) s = .next { s with dout := b, trace := s.trace ++ [.bus b], upc := s.upc + 1 } ∧
    exec .wra s = .next { s with dout := s.arg, trace := s.trace ++ [.bus s.arg], upc := s.upc + 1 }

/-- RDBUS while the bus is an input: STATUS takes the byte agent LCD answers, XFER gains R(RS, b); DOUT and every other
register are kept (R13, R117). The byte is the next one listed in `samples`, or a free value (log 7). -/
def Obligations.RdbusSamplesByte : Prop :=
  ∀ (s : State) (b : Byte), s.dir = .input → s.nextSample = b →
    exec .rdbus s = .next { s with
      status := b, xfer := s.xfer ++ [.read s.rs b], trace := s.trace ++ [.sample b], upc := s.upc + 1,
      samples := s.samples.tail, draws := s.draws + 1 }

/-- A bus access against the direction has no successor (R115, R116, R117, U1). -/
def Obligations.BusAccessAgainstDirectionStops : Prop :=
  ∀ (s : State) (b : Byte),
    (s.dir = .input → exec (.wri b) s = .fault .busIsInput ∧ exec .wra s = .fault .busIsInput) ∧
    (s.dir = .output → exec .rdbus s = .fault .busIsOutput)

/-- R130: END makes the block idle and changes nothing else, BUSY_OUT falls; END is the last element of every micro-program
and occurs nowhere else; on a run it is reached with EN = 0, RW = 0, DIR = 1, DLY_PEND = 0. -/
def Obligations.EndReturnsToIdle : Prop :=
  decode (.uw 0x000) = .ok .endOp ∧
  (∀ s : State, exec .endOp s = .next { s with op := .idle, upc := 0, sub := .zero }) ∧
  (∀ s t : State, exec .endOp s = .next t → t.busyOut = false) ∧
  (∀ (o : OpCode) (k : Nat), o ≠ .idle →
    ((Rom.standard.program o)[k]? = some .endOp ↔ k + 1 = (Rom.standard.program o).length)) ∧
  (∀ s : State, s.Inv → s.op ≠ .idle → s.current = some .endOp →
    s.en = false ∧ s.rw = false ∧ s.dir = .output ∧ s.dlyPend = false)

/-- BRBUSY goes to its target while STATUS[7] = 1 and falls through while it is 0; it changes nothing but UPC (R131). -/
def Obligations.BrbusyTestsBitSeven : Prop :=
  ∀ (s : State) (t : Byte),
    (s.status.getLsbD 7 = true → exec (.brbusy t) s = .next { s with upc := t.toNat }) ∧
    (s.status.getLsbD 7 = false → exec (.brbusy t) s = .next { s with upc := s.upc + 1 })

/-- Bits 6 to 0 of STATUS are kept and ignored (R22, R58): two states that differ in them alone take the same step, but for
those bits, until the next sample. -/
def Obligations.LowStatusBitsIgnored : Prop :=
  ∀ (s t : State) (b : Byte), b.getLsbD 7 = s.status.getLsbD 7 → s.resetIn = false → step s = .next t →
    step { s with status := b } = .next t ∨ step { s with status := b } = .next { t with status := b }

/-- R132: DELAY calls the service with its operand zero-extended, waits while the call is outstanding (no pin changes), then
goes on; its precondition is EN = 0. It is used with 30, 10 and 1, at INIT indices 3, 9 and 15, and EN = 0 there. -/
def Obligations.DelaySubSteps : Prop :=
  (∀ n : Byte, decode (.uw (0xA00 ||| n.zeroExtend 12)) = .ok (.delay n)) ∧
  (∀ (s : State) (n : Byte), s.en = false →
    (s.sub = .zero → ∃ a : BitVec 16, a.toNat = n.toNat ∧ exec (.delay n) s =
      .next { s with dlyN := a, dlyPend := true, trace := s.trace ++ [.delay n.toNat], sub := .one }) ∧
    (s.sub = .one ∧ s.dlyPend = true → exec (.delay n) s = .next s) ∧
    (s.sub = .one ∧ s.dlyPend = false → exec (.delay n) s = .next { s with sub := .zero, upc := s.upc + 1 })) ∧
  (∀ (o : OpCode) (k : Nat) (n : Byte), (Rom.standard.program o)[k]? = some (.delay n) ↔
    o = .init ∧ ((k = 3 ∧ n = 30) ∨ (k = 9 ∧ n = 10) ∨ (k = 15 ∧ n = 1))) ∧
  (∀ (s : State) (n : Byte), s.Inv → s.op ≠ .idle → s.current = some (.delay n) → s.en = false)

/-- R133: PHASE p with the phase at p - 1 sets the phase and appends its event, and changes no pin. It occurs only at INIT
indices 8, 14, 20 and 21, in that order, and there the phase is p - 1; p = 5, 6, 7 are reserved. -/
def Obligations.PhaseEntersPhase : Prop :=
  (decode (.uw 0xB01) = .ok (.phase .bootstrappingA) ∧ decode (.uw 0xB02) = .ok (.phase .bootstrappingB) ∧
    decode (.uw 0xB03) = .ok (.phase .bootstrappingC) ∧ decode (.uw 0xB04) = .ok (.phase .operational) ∧
    decode (.uw 0xB05) = .error .reservedPhase ∧ decode (.uw 0xB06) = .error .reservedPhase ∧
    decode (.uw 0xB07) = .error .reservedPhase) ∧
  (∀ (s : State) (p : Phase), s.phase.index + 1 = p.index → exec (.phase p) s =
    .next { s with phase := p, trace := s.trace ++ [.phase p], upc := s.upc + 1 }) ∧
  (∀ (o : OpCode) (k : Nat) (p : Phase), (Rom.standard.program o)[k]? = some (.phase p) ↔
    o = .init ∧ ((k = 8 ∧ p = .bootstrappingA) ∨ (k = 14 ∧ p = .bootstrappingB) ∨ (k = 20 ∧ p = .bootstrappingC) ∨
      (k = 21 ∧ p = .operational))) ∧
  (∀ (s : State) (p : Phase), s.Inv → s.op ≠ .idle → s.current = some (.phase p) → s.phase.index + 1 = p.index)

/-- The model's choice (log 12): DELAY with EN = 1, and PHASE p with the phase not at p - 1 or with p = 0, do what the
pseudocode of R132 and R133 says, as they do where their precondition holds. No run meets it (PreconditionsAlwaysHold). -/
def Obligations.BrokenPreconditionsArePerformed : Prop :=
  ∀ s : State,
    (∀ n : Byte, s.en = true →
      (s.sub = .zero → ∃ a : BitVec 16, a.toNat = n.toNat ∧ exec (.delay n) s =
        .next { s with dlyN := a, dlyPend := true, trace := s.trace ++ [.delay n.toNat], sub := .one }) ∧
      (s.sub = .one ∧ s.dlyPend = true → exec (.delay n) s = .next s) ∧
      (s.sub = .one ∧ s.dlyPend = false → exec (.delay n) s = .next { s with sub := .zero, upc := s.upc + 1 })) ∧
    (∀ p : Phase, s.phase.index + 1 ≠ p.index →
      exec (.phase p) s = .next { s with phase := p, trace := s.trace ++ [.phase p], upc := s.upc + 1 })

/-- Each LCD command byte reaches the controller's command register as it is, and no state of the block changes (R87, R95;
log 20). -/
def Obligations.LcdCommandsReachController : Prop :=
  ∀ s : State,
    exec .lcdBoot8 s = .next { s with xfer := s.xfer ++ [.write false 0x30] } ∧
    exec .lcdFunc s = .next { s with xfer := s.xfer ++ [.write false 0x38] } ∧
    exec .lcdEntry s = .next { s with xfer := s.xfer ++ [.write false 0x06] } ∧
    exec .lcdClear s = .next { s with xfer := s.xfer ++ [.write false 0x01] } ∧
    exec .lcdDispon s = .next { s with xfer := s.xfer ++ [.write false 0x0F] }

/-- Whatever byte is latched, with either RS, it reaches the controller unchanged (R51, R96). That a latched transfer stands in
`latched`, oldest first, and that the very next step takes the oldest into XFER and changes nothing else, is the model's: logs
9 and 10. -/
def Obligations.EveryByteReachesController : Prop :=
  ∀ (s : State) (rs : Bool) (b : Byte) (rest : List (Bool × Byte)), s.resetIn = false → s.latched = (rs, b) :: rest →
    step s = .next { s with latched := rest, xfer := s.xfer ++ [.write rs b] }

/-! ### Reset, pins, HOST -/

/-- The reset values R35 gives. -/
def Obligations.ResetValuesGiven : Prop :=
  State.reset.phase = .uninitialized ∧ State.reset.pclkEn = 0b00 ∧ State.reset.ctrlOe = false ∧
  State.reset.dir = .input ∧ State.reset.op = .idle ∧ State.reset.upc = 0 ∧ State.reset.sub = .zero ∧
  State.reset.dlyPend = false ∧ State.reset.trace = []

/-- RESET puts the block at the values of R35 whatever was running (R210). (That HOST's program, the answers still to come
and the store are kept is the model's, log 17.) -/
def Obligations.ResetWhateverRuns : Prop :=
  ∀ s : State, s.resetIn = true → ∃ t, step s = .next t ∧
    t.phase = .uninitialized ∧ t.pclkEn = 0b00 ∧ t.ctrlOe = false ∧ t.dir = .input ∧ t.op = .idle ∧ t.upc = 0 ∧
    t.sub = .zero ∧ t.dlyPend = false ∧ t.trace = [] ∧ t.xfer = [] ∧ t.resetIn = false ∧
    t.host = s.host ∧ t.rom = s.rom ∧ t.samples = s.samples ∧ t.answers = s.answers

/-- The data lines carry DOUT while DIR = 1 and are not driven while DIR = 0; the control lines carry their levels while
CTRL_OE = 1 and are not driven while it is 0; BUSY_OUT says that an operation runs (R21, R25, R27, R33). On the control port
each line is driven at its own mask, whatever the masks are (R59; the image of a port, log 21). -/
def Obligations.PinsFollowState : Prop :=
  ∀ s : State,
    (s.lcdData = some s.dout ↔ s.dir = .output) ∧ (s.lcdData = none ↔ s.dir = .input) ∧
    (s.ctrlOe = true → s.lcdLine .rs = some s.rs ∧ s.lcdLine .rw = some s.rw ∧ s.lcdLine .en = some s.en) ∧
    (s.ctrlOe = false → ∀ l, s.lcdLine l = none) ∧
    (s.busyOut = true ↔ s.op ≠ .idle) ∧
    ∀ (m : PinMasks) (k : Nat),
      ((s.controlPort m).driven.testBit k = true ↔
        s.ctrlOe = true ∧ (m.rs.testBit k = true ∨ m.rw.testBit k = true ∨ m.en.testBit k = true)) ∧
      ((s.controlPort m).high.testBit k = true ↔
        (s.lcdLine .rs = some true ∧ m.rs.testBit k = true) ∨ (s.lcdLine .rw = some true ∧ m.rw.testBit k = true) ∨
          (s.lcdLine .en = some true ∧ m.en.testBit k = true))

/-- HOST's pacing delay (R170, R196): the call appears in the trace while OP = IDLE, and HOST makes no further move until agent
DELAY has answered. The model's own: that HOST puts its argument on DLY_N (log 14), that DLY_PEND is left alone (log 15), that
each choice of agent DELAY, to answer or not yet, is a step (log 8; `draws`: log 24). -/
def Obligations.HostPauseHoldsRequests : Prop :=
  ∀ (s : State) (n : BitVec 16) (h : HostProgram), s.resetIn = false → s.latched = [] → s.op = .idle →
    (s.hostPend = false → s.host.next = some (.pause n, h) →
      step s = .next { s with host := h, hostPend := true, dlyN := n, trace := s.trace ++ [.delay n.toNat] }) ∧
    (s.hostPend = true →
      step s = .next { s with hostPend := !s.nextAnswer, answers := s.answers.tail, draws := s.draws + 1 })

/-- RUN (R170), for every MSG and T_PACE: HOST's first move is INIT, and from then on its moves are one iteration (the
characters in order, a pause, the clear, a pause) over and over: after `runIteration` has been made, HOST stands where it
stood. A request is issued only after the previous one has ended and the pause before it is over: wherever HOST stands in RUN,
REQ_VALID = 1 exactly if BUSY_OUT = 0, no call of HOST's is outstanding and the next move is a request. -/
def Obligations.RunRepeatsItsIteration : Prop :=
  ∀ (msg : List Byte) (pace : BitVec 16),
    (runProgram msg pace).next = some (.request 0x100, ⟨[], runIteration msg pace, false⟩) ∧
    (∀ (k : Nat) (m : HostMove), (runIteration msg pace)[k]? = some m →
      (⟨(runIteration msg pace).drop k, runIteration msg pace, false⟩ : HostProgram).next =
        some (m, ⟨(runIteration msg pace).drop (k + 1), runIteration msg pace, false⟩)) ∧
    (⟨[], runIteration msg pace, false⟩ : HostProgram).next =
      (⟨runIteration msg pace, runIteration msg pace, false⟩ : HostProgram).next ∧
    (∀ s : State, (s.host = runProgram msg pace ∨ ∃ k, s.host = ⟨(runIteration msg pace).drop k, runIteration msg pace, false⟩) →
      (s.reqValid = true ↔ s.busyOut = false ∧ s.hostPend = false ∧ ∃ w h, s.host.next = some (.request w, h))) ∧
    (runIteration msg pace).map (fun | .request w => w.toNat | .pause n => 0x1000 + n.toNat) =
      msg.map (fun ch => 0x500 + ch.toNat) ++ [0x1000 + pace.toNat, 0x401, 0x1000 + pace.toNat]

/-! ### Rules of the whole machine, for every state -/

/-- No step writes the micro-program store (R67). -/
def Obligations.StoreIsReadOnly : Prop := ∀ s t : State, step s = .next t → t.rom = s.rom

/-- Nothing but RESET clears CTRL_OE or PCLK_EN (R27, R28). -/
def Obligations.OutputsStayEnabled : Prop :=
  ∀ s t : State, s.resetIn = false → step s = .next t →
    (s.ctrlOe = true → t.ctrlOe = true) ∧ (s.pclkEn = 0b11 → t.pclkEn = 0b11) ∧
    (t.ctrlOe ≠ s.ctrlOe → s.current = some .cfgctl) ∧ (t.pclkEn ≠ s.pclkEn → s.current = some .clken)

/-- The trace is a total order in the order of the steps (R12, R62): a step appends at most one event and takes none away. -/
def Obligations.TraceOnlyGrows : Prop :=
  ∀ s t : State, s.resetIn = false → step s = .next t →
    t.trace = s.trace ∨ ∃ e : Event, t.trace = s.trace ++ [e]

/-- XFER is a view of TRACE (R13): in every state, of every store, if reading the trace from the view `v` gives the pins and
the log, the same holds after a step. (What CFGCTL and a second Line(EN, 1) do to a pulse under way is log 11.) -/
def Obligations.TransferLogIsViewOfTrace : Prop :=
  ∀ (v : PinView) (s t : State), s.resetIn = false → s.Tracked v → step s = .next t → t.Tracked v

/-- At reset, and after RESET, the trace and XFER are empty, and the view of the trace is the state's own (R13, R35). -/
def Obligations.ResetIsTracked : Prop :=
  (State.reset.trace = [] ∧ State.reset.xfer = [] ∧ State.reset.Tracked State.reset.view) ∧
  ∀ s t : State, s.resetIn = true → step s = .next t → t.trace = [] ∧ t.xfer = [] ∧ t.Tracked t.view

/-! ### The invariant -/

/-- The invariant holds at reset, whatever HOST, LCD and DELAY are going to do. -/
def Obligations.ResetMeetsInvariant : Prop :=
  ∀ (h : HostProgram) (bs : List Byte) (as : List Bool),
    ({ State.reset with host := h, samples := bs, answers := as } : State).Inv

/-- Every step keeps the invariant. -/
def Obligations.StepKeepsInvariant : Prop := ∀ s t : State, s.Inv → step s = .next t → t.Inv

/-- No run stops: there is no fault, no trap and no fourth outcome (R14, R180): from a state with the invariant, every step
gives a next state. -/
def Obligations.RunsNeverStop : Prop := ∀ s : State, s.Inv → ∃ t, step s = .next t

/-- Every micro-operation a run meets has its precondition (R61, R110 to R117, R130 to R133). Among them: at a PULSE the pins
are at the levels of the transfer, a write with RS = 1 exactly in DATA, or a status read with RS = 0, so the corner RS = 1,
RW = 1 is never generated (R50); at a BRBUSY the last transfer is the status read that STATUS holds, so STATUS is never read
before it is written (R22, R35). -/
def Obligations.PreconditionsAlwaysHold : Prop :=
  ∀ s : State, s.Inv → s.op ≠ .idle → ∃ i, s.current = some i ∧ precondition s i = true ∧
    (i = .pulse →
      (s.rw = false ∧ s.dir = .output ∧ (s.rs = true ↔ s.op = .data)) ∨ (s.rw = true ∧ s.dir = .input ∧ s.rs = false)) ∧
    (∀ t, i = .brbusy t → s.log.getLast? = some (.read false s.status))

/-- At every moment RW = 1 implies DIR = 0: the block never drives the data lines while read/write selects a read (R61). At a
public operation boundary after INIT the bus is an output, RW = 0 and EN = 0 (R34, R36, R145 (b)). -/
def Obligations.BusNeverFought : Prop :=
  ∀ s : State, s.Inv →
    (s.rw = true → s.dir = .input ∧ s.lcdData = none) ∧
    (s.op = .idle → s.phase = .operational → s.dir = .output ∧ s.rw = false ∧ s.en = false)

/-- While EN = 1 a step changes no pin but EN: RS, RW, DIR and DOUT are stable before and during every enable pulse (R36,
R224). -/
def Obligations.PinsStableDuringPulse : Prop :=
  ∀ s t : State, s.Inv → s.resetIn = false → s.ctrlOe = true → s.en = true → step s = .next t →
    t.rs = s.rs ∧ t.rw = s.rw ∧ t.dir = s.dir ∧ t.dout = s.dout ∧ t.ctrlOe = s.ctrlOe

/-- The phase moves strictly one forward, driven only by INIT, and never out of Operational (R24, R188). -/
def Obligations.PhaseNeverRegresses : Prop :=
  ∀ s t : State, s.Inv → s.resetIn = false → step s = .next t →
    t.phase = s.phase ∨ (s.op = .init ∧ t.phase.index = s.phase.index + 1)

/-- No status sample is taken before the phase is Operational (R69, R220). -/
def Obligations.NoSampleBeforeOperational : Prop :=
  ∀ (s t : State) (b : Byte), s.Inv → s.resetIn = false → step s = .next t →
    t.trace = s.trace ++ [.sample b] → s.phase = .operational

/-- From reset, whatever HOST offers and LCD and DELAY answer, every byte written after the third is immediately preceded by
a status read that was ready (R63, R229). -/
def Obligations.WritesWaitForReady : Prop :=
  ∀ (h : HostProgram) (bs : List Byte) (as : List Bool) (n : Nat) (t : State),
    runSteps n { State.reset with host := h, samples := bs, answers := as } = .next t → Guarded t.xfer

/-! ### Whole operations

Agent DELAY answers the calls after `ms` steps, one number for each call, any numbers. The model's own in every count of steps:
agent LCD takes a latched transfer in a step of its own (log 10), agent DELAY's choices are steps (log 8), and `draws` counts
its choices and the samples (log 24). The 0 on DLY_N: log 14. HOST moves on as its request is accepted: logs 4 and 9. -/

/-- AWAIT (R141, R131): with the samples `bs`, all busy but the last, it performs exactly `bs.length` poll cycles and returns
with the bus an output, RS = 0, RW = 0, EN = 0, DOUT unchanged. (Steps, `draws`, DLY_N: the model's, logs 8, 14 and 24.) -/
def Obligations.AwaitPollsUntilReady : Prop :=
  ∀ (s : State) (h : HostProgram) (bs rest : List Byte) (ms : List Nat) (more : List Bool),
    s.Offered 0x300 h → s.rom = .standard → s.phase = .operational → s.dlyPend = false → PollsUntilReady bs →
    ms.length = bs.length → s.samples = bs ++ rest → s.answers = answersAfter ms ++ more →
    runSteps (ms.sum + (7 + 6 * bs.length)) s = .next { s with
      host := h, arg := 0, sub := .zero, upc := 0, dir := .output, rs := false, rw := false, en := false,
      pulseWrite := false, status := bs.getLastD s.status, dlyN := 0,
      trace := s.trace ++ pollEvents bs, xfer := s.xfer ++ pollEntries bs,
      samples := rest, answers := more, draws := s.draws + (ms.sum + 2 * bs.length) }

/-- CMD c and DATA b (R142, R143): a poll window, then the write cycle, RS = 0 for a command and 1 for a character. (Steps,
`draws`, DLY_N, and LCD's own step for the transfer: the model's, logs 8, 10, 14 and 24.) -/
def Obligations.PolledWriteCompletes : Prop :=
  ∀ (s : State) (h : HostProgram) (rs : Bool) (b : Byte) (bs rest : List Byte) (ms : List Nat) (more : List Bool),
    s.Offered ((if rs then 0x500 else 0x400) ||| b.zeroExtend 12) h → s.rom = .standard → s.phase = .operational →
    s.ctrlOe = true → s.dlyPend = false → PollsUntilReady bs → ms.length = bs.length + 1 →
    s.samples = bs ++ rest → s.answers = answersAfter ms ++ more →
    runSteps (ms.sum + (15 + 6 * bs.length)) s = .next { s with
      host := h, arg := b, sub := .zero, upc := 0, dir := .output, rs := rs, rw := false, en := false,
      pulseWrite := false, dout := b, status := bs.getLastD s.status, dlyN := 0,
      trace := s.trace ++ pollEvents bs ++ writeEvents rs b,
      xfer := s.xfer ++ pollEntries bs ++ [.write rs b],
      samples := rest, answers := more, draws := s.draws + (ms.sum + (2 * bs.length + 1)) }

/-- CMDU c (R140), where it is admitted (no run idles there): one write cycle, exactly six events, no readiness check. (Steps,
`draws`, DLY_N, and LCD's own step for the transfer: the model's, logs 8, 10, 14 and 24.) -/
def Obligations.UncheckedWriteCompletes : Prop :=
  ∀ (s : State) (h : HostProgram) (c : Byte) (m : Nat) (more : List Bool),
    s.Offered (0x200 ||| c.zeroExtend 12) h → s.rom = .standard → s.phase ≠ .operational → s.ctrlOe = true →
    s.dir = .output → s.dlyPend = false → s.answers = answersAfter [m] ++ more →
    runSteps (m + 10) s = .next { s with
      host := h, arg := c, sub := .zero, upc := 0, rs := false, rw := false, en := false, pulseWrite := false,
      dout := c, dlyN := 0, trace := s.trace ++ writeEvents false c, xfer := s.xfer ++ [.write false c],
      answers := more, draws := s.draws + (m + 1) }

/-- INIT (R160, R162, R214): the bootstrap, then the four commands, each behind a poll window. (Steps, `draws`, DLY_N, and LCD's
own step for each transfer: the model's, logs 8, 10, 14 and 24.) -/
def Obligations.InitBringsUpController : Prop :=
  ∀ (s : State) (h : HostProgram) (w₁ w₂ w₃ w₄ rest : List Byte) (ms : List Nat) (more : List Bool),
    s.Offered 0x100 h → s.rom = .standard → s.phase = .uninitialized → s.dlyPend = false →
    PollsUntilReady w₁ → PollsUntilReady w₂ → PollsUntilReady w₃ → PollsUntilReady w₄ →
    s.samples = w₁ ++ w₂ ++ w₃ ++ w₄ ++ rest →
    ms.length = 10 + (w₁.length + w₂.length + w₃.length + w₄.length) → s.answers = answersAfter ms ++ more →
    runSteps (ms.sum + (94 + 6 * (w₁.length + w₂.length + w₃.length + w₄.length))) s = .next { s with
      host := h, phase := .operational, pclkEn := 0b11, ctrlOe := true, dir := .output, rs := false, rw := false,
      en := false, pulseWrite := false, dout := 0x0F, arg := 0, sub := .zero, upc := 0, dlyN := 0,
      status := w₄.getLastD s.status,
      trace := s.trace ++ [.clkEn, .ctlCfg, .dir .output, .delay 30] ++
        writeEvents false 0x30 ++ [.phase .bootstrappingA, .delay 10] ++
        writeEvents false 0x30 ++ [.phase .bootstrappingB, .delay 1] ++
        writeEvents false 0x30 ++ [.phase .bootstrappingC, .phase .operational] ++
        pollEvents w₁ ++ writeEvents false 0x38 ++ pollEvents w₂ ++ writeEvents false 0x06 ++
        pollEvents w₃ ++ writeEvents false 0x01 ++ pollEvents w₄ ++ writeEvents false 0x0F,
      xfer := s.xfer ++ [.write false 0x30, .write false 0x30, .write false 0x30] ++
        pollEntries w₁ ++ [.write false 0x38] ++ pollEntries w₂ ++ [.write false 0x06] ++
        pollEntries w₃ ++ [.write false 0x01] ++ pollEntries w₄ ++ [.write false 0x0F],
      samples := rest, answers := more,
      draws := s.draws + (ms.sum + (10 + 2 * (w₁.length + w₂.length + w₃.length + w₄.length))) }

/-- The hang (R182), in the poll loop of AWAIT, CMD or DATA and in each of the four poll windows of INIT: while every sample is
busy the block stays in the loop it is in, DIR = 0, RS = 0, RW = 1, BUSY_OUT = 1, and no later request is accepted. -/
def Obligations.NeverReadyHangs : Prop :=
  ∀ (n : Nat) (s : State), s.InPollLoop → (∀ b ∈ s.samples, isBusy b = true) → n ≤ s.samples.length →
    ∃ t, runSteps n s = .next t ∧ t.InPollLoop ∧ t.op = s.op ∧ t.busyOut = true ∧ t.host = s.host ∧
      s.upc ≤ t.upc + 2 ∧ t.upc ≤ s.upc + 2

/-- A delay service that does not answer (R182, U14): the block stays where it is; no event, no change of a pin. -/
def Obligations.UnansweredDelayWaits : Prop :=
  ∀ (n : Nat) (s : State) (i : Instr), s.EngineTurn → s.current = some i → s.waitsAt i = true →
    (∀ a ∈ s.answers, a = false) → n ≤ s.answers.length →
    runSteps n s = .next { s with answers := s.answers.drop n, draws := s.draws + n }
end

