-- ==== Sys2Proof/Laws/State.lean ====
section
/-! SUPPORT. One lemma per field per named update of the state, each true by rfl. -/

namespace Sys2Proof.Machine

variable (s : State)

/-! ### emit -/
@[simp] theorem State.emit_phase (e : Event) : (s.emit e).phase = s.phase := rfl
@[simp] theorem State.emit_pclkEn (e : Event) : (s.emit e).pclkEn = s.pclkEn := rfl
@[simp] theorem State.emit_ctrlOe (e : Event) : (s.emit e).ctrlOe = s.ctrlOe := rfl
@[simp] theorem State.emit_rs (e : Event) : (s.emit e).rs = s.rs := rfl
@[simp] theorem State.emit_rw (e : Event) : (s.emit e).rw = s.rw := rfl
@[simp] theorem State.emit_en (e : Event) : (s.emit e).en = s.en := rfl
@[simp] theorem State.emit_dir (e : Event) : (s.emit e).dir = s.dir := rfl
@[simp] theorem State.emit_dout (e : Event) : (s.emit e).dout = s.dout := rfl
@[simp] theorem State.emit_status (e : Event) : (s.emit e).status = s.status := rfl
@[simp] theorem State.emit_arg (e : Event) : (s.emit e).arg = s.arg := rfl
@[simp] theorem State.emit_op (e : Event) : (s.emit e).op = s.op := rfl
@[simp] theorem State.emit_upc (e : Event) : (s.emit e).upc = s.upc := rfl
@[simp] theorem State.emit_sub (e : Event) : (s.emit e).sub = s.sub := rfl
@[simp] theorem State.emit_dlyPend (e : Event) : (s.emit e).dlyPend = s.dlyPend := rfl
@[simp] theorem State.emit_dlyN (e : Event) : (s.emit e).dlyN = s.dlyN := rfl
@[simp] theorem State.emit_trace (e : Event) : (s.emit e).trace = s.trace ++ [e] := rfl
@[simp] theorem State.emit_xfer (e : Event) : (s.emit e).xfer = s.xfer := rfl
@[simp] theorem State.emit_resetIn (e : Event) : (s.emit e).resetIn = s.resetIn := rfl
@[simp] theorem State.emit_host (e : Event) : (s.emit e).host = s.host := rfl
@[simp] theorem State.emit_hostPend (e : Event) : (s.emit e).hostPend = s.hostPend := rfl
@[simp] theorem State.emit_rom (e : Event) : (s.emit e).rom = s.rom := rfl
@[simp] theorem State.emit_pulseWrite (e : Event) : (s.emit e).pulseWrite = s.pulseWrite := rfl
@[simp] theorem State.emit_latched (e : Event) : (s.emit e).latched = s.latched := rfl
@[simp] theorem State.emit_refusals (e : Event) : (s.emit e).refusals = s.refusals := rfl
@[simp] theorem State.emit_samples (e : Event) : (s.emit e).samples = s.samples := rfl
@[simp] theorem State.emit_answers (e : Event) : (s.emit e).answers = s.answers := rfl
@[simp] theorem State.emit_draws (e : Event) : (s.emit e).draws = s.draws := rfl

/-! ### advance -/
@[simp] theorem State.advance_phase : (s.advance).phase = s.phase := rfl
@[simp] theorem State.advance_pclkEn : (s.advance).pclkEn = s.pclkEn := rfl
@[simp] theorem State.advance_ctrlOe : (s.advance).ctrlOe = s.ctrlOe := rfl
@[simp] theorem State.advance_rs : (s.advance).rs = s.rs := rfl
@[simp] theorem State.advance_rw : (s.advance).rw = s.rw := rfl
@[simp] theorem State.advance_en : (s.advance).en = s.en := rfl
@[simp] theorem State.advance_dir : (s.advance).dir = s.dir := rfl
@[simp] theorem State.advance_dout : (s.advance).dout = s.dout := rfl
@[simp] theorem State.advance_status : (s.advance).status = s.status := rfl
@[simp] theorem State.advance_arg : (s.advance).arg = s.arg := rfl
@[simp] theorem State.advance_op : (s.advance).op = s.op := rfl
@[simp] theorem State.advance_upc : (s.advance).upc = s.upc + 1 := rfl
@[simp] theorem State.advance_sub : (s.advance).sub = s.sub := rfl
@[simp] theorem State.advance_dlyPend : (s.advance).dlyPend = s.dlyPend := rfl
@[simp] theorem State.advance_dlyN : (s.advance).dlyN = s.dlyN := rfl
@[simp] theorem State.advance_trace : (s.advance).trace = s.trace := rfl
@[simp] theorem State.advance_xfer : (s.advance).xfer = s.xfer := rfl
@[simp] theorem State.advance_resetIn : (s.advance).resetIn = s.resetIn := rfl
@[simp] theorem State.advance_host : (s.advance).host = s.host := rfl
@[simp] theorem State.advance_hostPend : (s.advance).hostPend = s.hostPend := rfl
@[simp] theorem State.advance_rom : (s.advance).rom = s.rom := rfl
@[simp] theorem State.advance_pulseWrite : (s.advance).pulseWrite = s.pulseWrite := rfl
@[simp] theorem State.advance_latched : (s.advance).latched = s.latched := rfl
@[simp] theorem State.advance_refusals : (s.advance).refusals = s.refusals := rfl
@[simp] theorem State.advance_samples : (s.advance).samples = s.samples := rfl
@[simp] theorem State.advance_answers : (s.advance).answers = s.answers := rfl
@[simp] theorem State.advance_draws : (s.advance).draws = s.draws := rfl

/-! ### jump -/
@[simp] theorem State.jump_phase (t : Nat) : (s.jump t).phase = s.phase := rfl
@[simp] theorem State.jump_pclkEn (t : Nat) : (s.jump t).pclkEn = s.pclkEn := rfl
@[simp] theorem State.jump_ctrlOe (t : Nat) : (s.jump t).ctrlOe = s.ctrlOe := rfl
@[simp] theorem State.jump_rs (t : Nat) : (s.jump t).rs = s.rs := rfl
@[simp] theorem State.jump_rw (t : Nat) : (s.jump t).rw = s.rw := rfl
@[simp] theorem State.jump_en (t : Nat) : (s.jump t).en = s.en := rfl
@[simp] theorem State.jump_dir (t : Nat) : (s.jump t).dir = s.dir := rfl
@[simp] theorem State.jump_dout (t : Nat) : (s.jump t).dout = s.dout := rfl
@[simp] theorem State.jump_status (t : Nat) : (s.jump t).status = s.status := rfl
@[simp] theorem State.jump_arg (t : Nat) : (s.jump t).arg = s.arg := rfl
@[simp] theorem State.jump_op (t : Nat) : (s.jump t).op = s.op := rfl
@[simp] theorem State.jump_upc (t : Nat) : (s.jump t).upc = t := rfl
@[simp] theorem State.jump_sub (t : Nat) : (s.jump t).sub = s.sub := rfl
@[simp] theorem State.jump_dlyPend (t : Nat) : (s.jump t).dlyPend = s.dlyPend := rfl
@[simp] theorem State.jump_dlyN (t : Nat) : (s.jump t).dlyN = s.dlyN := rfl
@[simp] theorem State.jump_trace (t : Nat) : (s.jump t).trace = s.trace := rfl
@[simp] theorem State.jump_xfer (t : Nat) : (s.jump t).xfer = s.xfer := rfl
@[simp] theorem State.jump_resetIn (t : Nat) : (s.jump t).resetIn = s.resetIn := rfl
@[simp] theorem State.jump_host (t : Nat) : (s.jump t).host = s.host := rfl
@[simp] theorem State.jump_hostPend (t : Nat) : (s.jump t).hostPend = s.hostPend := rfl
@[simp] theorem State.jump_rom (t : Nat) : (s.jump t).rom = s.rom := rfl
@[simp] theorem State.jump_pulseWrite (t : Nat) : (s.jump t).pulseWrite = s.pulseWrite := rfl
@[simp] theorem State.jump_latched (t : Nat) : (s.jump t).latched = s.latched := rfl
@[simp] theorem State.jump_refusals (t : Nat) : (s.jump t).refusals = s.refusals := rfl
@[simp] theorem State.jump_samples (t : Nat) : (s.jump t).samples = s.samples := rfl
@[simp] theorem State.jump_answers (t : Nat) : (s.jump t).answers = s.answers := rfl
@[simp] theorem State.jump_draws (t : Nat) : (s.jump t).draws = s.draws := rfl

/-! ### setSub -/
@[simp] theorem State.setSub_phase (k : SubStep) : (s.setSub k).phase = s.phase := rfl
@[simp] theorem State.setSub_pclkEn (k : SubStep) : (s.setSub k).pclkEn = s.pclkEn := rfl
@[simp] theorem State.setSub_ctrlOe (k : SubStep) : (s.setSub k).ctrlOe = s.ctrlOe := rfl
@[simp] theorem State.setSub_rs (k : SubStep) : (s.setSub k).rs = s.rs := rfl
@[simp] theorem State.setSub_rw (k : SubStep) : (s.setSub k).rw = s.rw := rfl
@[simp] theorem State.setSub_en (k : SubStep) : (s.setSub k).en = s.en := rfl
@[simp] theorem State.setSub_dir (k : SubStep) : (s.setSub k).dir = s.dir := rfl
@[simp] theorem State.setSub_dout (k : SubStep) : (s.setSub k).dout = s.dout := rfl
@[simp] theorem State.setSub_status (k : SubStep) : (s.setSub k).status = s.status := rfl
@[simp] theorem State.setSub_arg (k : SubStep) : (s.setSub k).arg = s.arg := rfl
@[simp] theorem State.setSub_op (k : SubStep) : (s.setSub k).op = s.op := rfl
@[simp] theorem State.setSub_upc (k : SubStep) : (s.setSub k).upc = s.upc := rfl
@[simp] theorem State.setSub_sub (k : SubStep) : (s.setSub k).sub = k := rfl
@[simp] theorem State.setSub_dlyPend (k : SubStep) : (s.setSub k).dlyPend = s.dlyPend := rfl
@[simp] theorem State.setSub_dlyN (k : SubStep) : (s.setSub k).dlyN = s.dlyN := rfl
@[simp] theorem State.setSub_trace (k : SubStep) : (s.setSub k).trace = s.trace := rfl
@[simp] theorem State.setSub_xfer (k : SubStep) : (s.setSub k).xfer = s.xfer := rfl
@[simp] theorem State.setSub_resetIn (k : SubStep) : (s.setSub k).resetIn = s.resetIn := rfl
@[simp] theorem State.setSub_host (k : SubStep) : (s.setSub k).host = s.host := rfl
@[simp] theorem State.setSub_hostPend (k : SubStep) : (s.setSub k).hostPend = s.hostPend := rfl
@[simp] theorem State.setSub_rom (k : SubStep) : (s.setSub k).rom = s.rom := rfl
@[simp] theorem State.setSub_pulseWrite (k : SubStep) : (s.setSub k).pulseWrite = s.pulseWrite := rfl
@[simp] theorem State.setSub_latched (k : SubStep) : (s.setSub k).latched = s.latched := rfl
@[simp] theorem State.setSub_refusals (k : SubStep) : (s.setSub k).refusals = s.refusals := rfl
@[simp] theorem State.setSub_samples (k : SubStep) : (s.setSub k).samples = s.samples := rfl
@[simp] theorem State.setSub_answers (k : SubStep) : (s.setSub k).answers = s.answers := rfl
@[simp] theorem State.setSub_draws (k : SubStep) : (s.setSub k).draws = s.draws := rfl

/-! ### driveEn -/
@[simp] theorem State.driveEn_phase (v : Bool) : (s.driveEn v).phase = s.phase := rfl
@[simp] theorem State.driveEn_pclkEn (v : Bool) : (s.driveEn v).pclkEn = s.pclkEn := rfl
@[simp] theorem State.driveEn_ctrlOe (v : Bool) : (s.driveEn v).ctrlOe = s.ctrlOe := rfl
@[simp] theorem State.driveEn_rs (v : Bool) : (s.driveEn v).rs = s.rs := rfl
@[simp] theorem State.driveEn_rw (v : Bool) : (s.driveEn v).rw = s.rw := rfl
@[simp] theorem State.driveEn_en (v : Bool) : (s.driveEn v).en = v := rfl
@[simp] theorem State.driveEn_dir (v : Bool) : (s.driveEn v).dir = s.dir := rfl
@[simp] theorem State.driveEn_dout (v : Bool) : (s.driveEn v).dout = s.dout := rfl
@[simp] theorem State.driveEn_status (v : Bool) : (s.driveEn v).status = s.status := rfl
@[simp] theorem State.driveEn_arg (v : Bool) : (s.driveEn v).arg = s.arg := rfl
@[simp] theorem State.driveEn_op (v : Bool) : (s.driveEn v).op = s.op := rfl
@[simp] theorem State.driveEn_upc (v : Bool) : (s.driveEn v).upc = s.upc := rfl
@[simp] theorem State.driveEn_sub (v : Bool) : (s.driveEn v).sub = s.sub := rfl
@[simp] theorem State.driveEn_dlyPend (v : Bool) : (s.driveEn v).dlyPend = s.dlyPend := rfl
@[simp] theorem State.driveEn_dlyN (v : Bool) : (s.driveEn v).dlyN = s.dlyN := rfl
@[simp] theorem State.driveEn_trace (v : Bool) : (s.driveEn v).trace = s.trace := rfl
@[simp] theorem State.driveEn_xfer (v : Bool) : (s.driveEn v).xfer = s.xfer := rfl
@[simp] theorem State.driveEn_resetIn (v : Bool) : (s.driveEn v).resetIn = s.resetIn := rfl
@[simp] theorem State.driveEn_host (v : Bool) : (s.driveEn v).host = s.host := rfl
@[simp] theorem State.driveEn_hostPend (v : Bool) : (s.driveEn v).hostPend = s.hostPend := rfl
@[simp] theorem State.driveEn_rom (v : Bool) : (s.driveEn v).rom = s.rom := rfl
@[simp] theorem State.driveEn_pulseWrite (v : Bool) : (s.driveEn v).pulseWrite = (v && s.writeSelected) := rfl
@[simp] theorem State.driveEn_latched (v : Bool) : (s.driveEn v).latched = if !v && s.pulseWrite then s.latched ++ [(s.rs, s.dout)] else s.latched := rfl
@[simp] theorem State.driveEn_refusals (v : Bool) : (s.driveEn v).refusals = s.refusals := rfl
@[simp] theorem State.driveEn_samples (v : Bool) : (s.driveEn v).samples = s.samples := rfl
@[simp] theorem State.driveEn_answers (v : Bool) : (s.driveEn v).answers = s.answers := rfl
@[simp] theorem State.driveEn_draws (v : Bool) : (s.driveEn v).draws = s.draws := rfl

/-! ### configureControl -/
@[simp] theorem State.configureControl_phase : (s.configureControl).phase = s.phase := rfl
@[simp] theorem State.configureControl_pclkEn : (s.configureControl).pclkEn = s.pclkEn := rfl
@[simp] theorem State.configureControl_ctrlOe : (s.configureControl).ctrlOe = true := rfl
@[simp] theorem State.configureControl_rs : (s.configureControl).rs = false := rfl
@[simp] theorem State.configureControl_rw : (s.configureControl).rw = false := rfl
@[simp] theorem State.configureControl_en : (s.configureControl).en = false := rfl
@[simp] theorem State.configureControl_dir : (s.configureControl).dir = s.dir := rfl
@[simp] theorem State.configureControl_dout : (s.configureControl).dout = s.dout := rfl
@[simp] theorem State.configureControl_status : (s.configureControl).status = s.status := rfl
@[simp] theorem State.configureControl_arg : (s.configureControl).arg = s.arg := rfl
@[simp] theorem State.configureControl_op : (s.configureControl).op = s.op := rfl
@[simp] theorem State.configureControl_upc : (s.configureControl).upc = s.upc := rfl
@[simp] theorem State.configureControl_sub : (s.configureControl).sub = s.sub := rfl
@[simp] theorem State.configureControl_dlyPend : (s.configureControl).dlyPend = s.dlyPend := rfl
@[simp] theorem State.configureControl_dlyN : (s.configureControl).dlyN = s.dlyN := rfl
@[simp] theorem State.configureControl_trace : (s.configureControl).trace = s.trace := rfl
@[simp] theorem State.configureControl_xfer : (s.configureControl).xfer = s.xfer := rfl
@[simp] theorem State.configureControl_resetIn : (s.configureControl).resetIn = s.resetIn := rfl
@[simp] theorem State.configureControl_host : (s.configureControl).host = s.host := rfl
@[simp] theorem State.configureControl_hostPend : (s.configureControl).hostPend = s.hostPend := rfl
@[simp] theorem State.configureControl_rom : (s.configureControl).rom = s.rom := rfl
@[simp] theorem State.configureControl_pulseWrite : (s.configureControl).pulseWrite = false := rfl
@[simp] theorem State.configureControl_latched : (s.configureControl).latched = s.latched := rfl
@[simp] theorem State.configureControl_refusals : (s.configureControl).refusals = s.refusals := rfl
@[simp] theorem State.configureControl_samples : (s.configureControl).samples = s.samples := rfl
@[simp] theorem State.configureControl_answers : (s.configureControl).answers = s.answers := rfl
@[simp] theorem State.configureControl_draws : (s.configureControl).draws = s.draws := rfl

/-! ### enableClocks -/
@[simp] theorem State.enableClocks_phase : (s.enableClocks).phase = s.phase := rfl
@[simp] theorem State.enableClocks_pclkEn : (s.enableClocks).pclkEn = 0b11 := rfl
@[simp] theorem State.enableClocks_ctrlOe : (s.enableClocks).ctrlOe = s.ctrlOe := rfl
@[simp] theorem State.enableClocks_rs : (s.enableClocks).rs = s.rs := rfl
@[simp] theorem State.enableClocks_rw : (s.enableClocks).rw = s.rw := rfl
@[simp] theorem State.enableClocks_en : (s.enableClocks).en = s.en := rfl
@[simp] theorem State.enableClocks_dir : (s.enableClocks).dir = s.dir := rfl
@[simp] theorem State.enableClocks_dout : (s.enableClocks).dout = s.dout := rfl
@[simp] theorem State.enableClocks_status : (s.enableClocks).status = s.status := rfl
@[simp] theorem State.enableClocks_arg : (s.enableClocks).arg = s.arg := rfl
@[simp] theorem State.enableClocks_op : (s.enableClocks).op = s.op := rfl
@[simp] theorem State.enableClocks_upc : (s.enableClocks).upc = s.upc := rfl
@[simp] theorem State.enableClocks_sub : (s.enableClocks).sub = s.sub := rfl
@[simp] theorem State.enableClocks_dlyPend : (s.enableClocks).dlyPend = s.dlyPend := rfl
@[simp] theorem State.enableClocks_dlyN : (s.enableClocks).dlyN = s.dlyN := rfl
@[simp] theorem State.enableClocks_trace : (s.enableClocks).trace = s.trace := rfl
@[simp] theorem State.enableClocks_xfer : (s.enableClocks).xfer = s.xfer := rfl
@[simp] theorem State.enableClocks_resetIn : (s.enableClocks).resetIn = s.resetIn := rfl
@[simp] theorem State.enableClocks_host : (s.enableClocks).host = s.host := rfl
@[simp] theorem State.enableClocks_hostPend : (s.enableClocks).hostPend = s.hostPend := rfl
@[simp] theorem State.enableClocks_rom : (s.enableClocks).rom = s.rom := rfl
@[simp] theorem State.enableClocks_pulseWrite : (s.enableClocks).pulseWrite = s.pulseWrite := rfl
@[simp] theorem State.enableClocks_latched : (s.enableClocks).latched = s.latched := rfl
@[simp] theorem State.enableClocks_refusals : (s.enableClocks).refusals = s.refusals := rfl
@[simp] theorem State.enableClocks_samples : (s.enableClocks).samples = s.samples := rfl
@[simp] theorem State.enableClocks_answers : (s.enableClocks).answers = s.answers := rfl
@[simp] theorem State.enableClocks_draws : (s.enableClocks).draws = s.draws := rfl

/-! ### turnBus -/
@[simp] theorem State.turnBus_phase (d : BusDir) : (s.turnBus d).phase = s.phase := rfl
@[simp] theorem State.turnBus_pclkEn (d : BusDir) : (s.turnBus d).pclkEn = s.pclkEn := rfl
@[simp] theorem State.turnBus_ctrlOe (d : BusDir) : (s.turnBus d).ctrlOe = s.ctrlOe := rfl
@[simp] theorem State.turnBus_rs (d : BusDir) : (s.turnBus d).rs = s.rs := rfl
@[simp] theorem State.turnBus_rw (d : BusDir) : (s.turnBus d).rw = s.rw := rfl
@[simp] theorem State.turnBus_en (d : BusDir) : (s.turnBus d).en = s.en := rfl
@[simp] theorem State.turnBus_dir (d : BusDir) : (s.turnBus d).dir = d := rfl
@[simp] theorem State.turnBus_dout (d : BusDir) : (s.turnBus d).dout = s.dout := rfl
@[simp] theorem State.turnBus_status (d : BusDir) : (s.turnBus d).status = s.status := rfl
@[simp] theorem State.turnBus_arg (d : BusDir) : (s.turnBus d).arg = s.arg := rfl
@[simp] theorem State.turnBus_op (d : BusDir) : (s.turnBus d).op = s.op := rfl
@[simp] theorem State.turnBus_upc (d : BusDir) : (s.turnBus d).upc = s.upc := rfl
@[simp] theorem State.turnBus_sub (d : BusDir) : (s.turnBus d).sub = s.sub := rfl
@[simp] theorem State.turnBus_dlyPend (d : BusDir) : (s.turnBus d).dlyPend = s.dlyPend := rfl
@[simp] theorem State.turnBus_dlyN (d : BusDir) : (s.turnBus d).dlyN = s.dlyN := rfl
@[simp] theorem State.turnBus_trace (d : BusDir) : (s.turnBus d).trace = s.trace := rfl
@[simp] theorem State.turnBus_xfer (d : BusDir) : (s.turnBus d).xfer = s.xfer := rfl
@[simp] theorem State.turnBus_resetIn (d : BusDir) : (s.turnBus d).resetIn = s.resetIn := rfl
@[simp] theorem State.turnBus_host (d : BusDir) : (s.turnBus d).host = s.host := rfl
@[simp] theorem State.turnBus_hostPend (d : BusDir) : (s.turnBus d).hostPend = s.hostPend := rfl
@[simp] theorem State.turnBus_rom (d : BusDir) : (s.turnBus d).rom = s.rom := rfl
@[simp] theorem State.turnBus_pulseWrite (d : BusDir) : (s.turnBus d).pulseWrite = s.pulseWrite := rfl
@[simp] theorem State.turnBus_latched (d : BusDir) : (s.turnBus d).latched = s.latched := rfl
@[simp] theorem State.turnBus_refusals (d : BusDir) : (s.turnBus d).refusals = s.refusals := rfl
@[simp] theorem State.turnBus_samples (d : BusDir) : (s.turnBus d).samples = s.samples := rfl
@[simp] theorem State.turnBus_answers (d : BusDir) : (s.turnBus d).answers = s.answers := rfl
@[simp] theorem State.turnBus_draws (d : BusDir) : (s.turnBus d).draws = s.draws := rfl

/-! ### driveBus -/
@[simp] theorem State.driveBus_phase (b : Byte) : (s.driveBus b).phase = s.phase := rfl
@[simp] theorem State.driveBus_pclkEn (b : Byte) : (s.driveBus b).pclkEn = s.pclkEn := rfl
@[simp] theorem State.driveBus_ctrlOe (b : Byte) : (s.driveBus b).ctrlOe = s.ctrlOe := rfl
@[simp] theorem State.driveBus_rs (b : Byte) : (s.driveBus b).rs = s.rs := rfl
@[simp] theorem State.driveBus_rw (b : Byte) : (s.driveBus b).rw = s.rw := rfl
@[simp] theorem State.driveBus_en (b : Byte) : (s.driveBus b).en = s.en := rfl
@[simp] theorem State.driveBus_dir (b : Byte) : (s.driveBus b).dir = s.dir := rfl
@[simp] theorem State.driveBus_dout (b : Byte) : (s.driveBus b).dout = b := rfl
@[simp] theorem State.driveBus_status (b : Byte) : (s.driveBus b).status = s.status := rfl
@[simp] theorem State.driveBus_arg (b : Byte) : (s.driveBus b).arg = s.arg := rfl
@[simp] theorem State.driveBus_op (b : Byte) : (s.driveBus b).op = s.op := rfl
@[simp] theorem State.driveBus_upc (b : Byte) : (s.driveBus b).upc = s.upc := rfl
@[simp] theorem State.driveBus_sub (b : Byte) : (s.driveBus b).sub = s.sub := rfl
@[simp] theorem State.driveBus_dlyPend (b : Byte) : (s.driveBus b).dlyPend = s.dlyPend := rfl
@[simp] theorem State.driveBus_dlyN (b : Byte) : (s.driveBus b).dlyN = s.dlyN := rfl
@[simp] theorem State.driveBus_trace (b : Byte) : (s.driveBus b).trace = s.trace ++ [.bus b] := rfl
@[simp] theorem State.driveBus_xfer (b : Byte) : (s.driveBus b).xfer = s.xfer := rfl
@[simp] theorem State.driveBus_resetIn (b : Byte) : (s.driveBus b).resetIn = s.resetIn := rfl
@[simp] theorem State.driveBus_host (b : Byte) : (s.driveBus b).host = s.host := rfl
@[simp] theorem State.driveBus_hostPend (b : Byte) : (s.driveBus b).hostPend = s.hostPend := rfl
@[simp] theorem State.driveBus_rom (b : Byte) : (s.driveBus b).rom = s.rom := rfl
@[simp] theorem State.driveBus_pulseWrite (b : Byte) : (s.driveBus b).pulseWrite = s.pulseWrite := rfl
@[simp] theorem State.driveBus_latched (b : Byte) : (s.driveBus b).latched = s.latched := rfl
@[simp] theorem State.driveBus_refusals (b : Byte) : (s.driveBus b).refusals = s.refusals := rfl
@[simp] theorem State.driveBus_samples (b : Byte) : (s.driveBus b).samples = s.samples := rfl
@[simp] theorem State.driveBus_answers (b : Byte) : (s.driveBus b).answers = s.answers := rfl
@[simp] theorem State.driveBus_draws (b : Byte) : (s.driveBus b).draws = s.draws := rfl

/-! ### sampleBus -/
@[simp] theorem State.sampleBus_phase : (s.sampleBus).phase = s.phase := rfl
@[simp] theorem State.sampleBus_pclkEn : (s.sampleBus).pclkEn = s.pclkEn := rfl
@[simp] theorem State.sampleBus_ctrlOe : (s.sampleBus).ctrlOe = s.ctrlOe := rfl
@[simp] theorem State.sampleBus_rs : (s.sampleBus).rs = s.rs := rfl
@[simp] theorem State.sampleBus_rw : (s.sampleBus).rw = s.rw := rfl
@[simp] theorem State.sampleBus_en : (s.sampleBus).en = s.en := rfl
@[simp] theorem State.sampleBus_dir : (s.sampleBus).dir = s.dir := rfl
@[simp] theorem State.sampleBus_dout : (s.sampleBus).dout = s.dout := rfl
@[simp] theorem State.sampleBus_status : (s.sampleBus).status = s.nextSample := rfl
@[simp] theorem State.sampleBus_arg : (s.sampleBus).arg = s.arg := rfl
@[simp] theorem State.sampleBus_op : (s.sampleBus).op = s.op := rfl
@[simp] theorem State.sampleBus_upc : (s.sampleBus).upc = s.upc := rfl
@[simp] theorem State.sampleBus_sub : (s.sampleBus).sub = s.sub := rfl
@[simp] theorem State.sampleBus_dlyPend : (s.sampleBus).dlyPend = s.dlyPend := rfl
@[simp] theorem State.sampleBus_dlyN : (s.sampleBus).dlyN = s.dlyN := rfl
@[simp] theorem State.sampleBus_trace : (s.sampleBus).trace = s.trace ++ [.sample s.nextSample] := rfl
@[simp] theorem State.sampleBus_xfer : (s.sampleBus).xfer = s.xfer ++ [.read s.rs s.nextSample] := rfl
@[simp] theorem State.sampleBus_resetIn : (s.sampleBus).resetIn = s.resetIn := rfl
@[simp] theorem State.sampleBus_host : (s.sampleBus).host = s.host := rfl
@[simp] theorem State.sampleBus_hostPend : (s.sampleBus).hostPend = s.hostPend := rfl
@[simp] theorem State.sampleBus_rom : (s.sampleBus).rom = s.rom := rfl
@[simp] theorem State.sampleBus_pulseWrite : (s.sampleBus).pulseWrite = s.pulseWrite := rfl
@[simp] theorem State.sampleBus_latched : (s.sampleBus).latched = s.latched := rfl
@[simp] theorem State.sampleBus_refusals : (s.sampleBus).refusals = s.refusals := rfl
@[simp] theorem State.sampleBus_samples : (s.sampleBus).samples = s.samples.tail := rfl
@[simp] theorem State.sampleBus_answers : (s.sampleBus).answers = s.answers := rfl
@[simp] theorem State.sampleBus_draws : (s.sampleBus).draws = s.draws + 1 := rfl

/-! ### callDelay -/
@[simp] theorem State.callDelay_phase (n : BitVec 16) : (s.callDelay n).phase = s.phase := rfl
@[simp] theorem State.callDelay_pclkEn (n : BitVec 16) : (s.callDelay n).pclkEn = s.pclkEn := rfl
@[simp] theorem State.callDelay_ctrlOe (n : BitVec 16) : (s.callDelay n).ctrlOe = s.ctrlOe := rfl
@[simp] theorem State.callDelay_rs (n : BitVec 16) : (s.callDelay n).rs = s.rs := rfl
@[simp] theorem State.callDelay_rw (n : BitVec 16) : (s.callDelay n).rw = s.rw := rfl
@[simp] theorem State.callDelay_en (n : BitVec 16) : (s.callDelay n).en = s.en := rfl
@[simp] theorem State.callDelay_dir (n : BitVec 16) : (s.callDelay n).dir = s.dir := rfl
@[simp] theorem State.callDelay_dout (n : BitVec 16) : (s.callDelay n).dout = s.dout := rfl
@[simp] theorem State.callDelay_status (n : BitVec 16) : (s.callDelay n).status = s.status := rfl
@[simp] theorem State.callDelay_arg (n : BitVec 16) : (s.callDelay n).arg = s.arg := rfl
@[simp] theorem State.callDelay_op (n : BitVec 16) : (s.callDelay n).op = s.op := rfl
@[simp] theorem State.callDelay_upc (n : BitVec 16) : (s.callDelay n).upc = s.upc := rfl
@[simp] theorem State.callDelay_sub (n : BitVec 16) : (s.callDelay n).sub = s.sub := rfl
@[simp] theorem State.callDelay_dlyPend (n : BitVec 16) : (s.callDelay n).dlyPend = true := rfl
@[simp] theorem State.callDelay_dlyN (n : BitVec 16) : (s.callDelay n).dlyN = n := rfl
@[simp] theorem State.callDelay_trace (n : BitVec 16) : (s.callDelay n).trace = s.trace ++ [.delay n.toNat] := rfl
@[simp] theorem State.callDelay_xfer (n : BitVec 16) : (s.callDelay n).xfer = s.xfer := rfl
@[simp] theorem State.callDelay_resetIn (n : BitVec 16) : (s.callDelay n).resetIn = s.resetIn := rfl
@[simp] theorem State.callDelay_host (n : BitVec 16) : (s.callDelay n).host = s.host := rfl
@[simp] theorem State.callDelay_hostPend (n : BitVec 16) : (s.callDelay n).hostPend = s.hostPend := rfl
@[simp] theorem State.callDelay_rom (n : BitVec 16) : (s.callDelay n).rom = s.rom := rfl
@[simp] theorem State.callDelay_pulseWrite (n : BitVec 16) : (s.callDelay n).pulseWrite = s.pulseWrite := rfl
@[simp] theorem State.callDelay_latched (n : BitVec 16) : (s.callDelay n).latched = s.latched := rfl
@[simp] theorem State.callDelay_refusals (n : BitVec 16) : (s.callDelay n).refusals = s.refusals := rfl
@[simp] theorem State.callDelay_samples (n : BitVec 16) : (s.callDelay n).samples = s.samples := rfl
@[simp] theorem State.callDelay_answers (n : BitVec 16) : (s.callDelay n).answers = s.answers := rfl
@[simp] theorem State.callDelay_draws (n : BitVec 16) : (s.callDelay n).draws = s.draws := rfl

/-! ### hostCallDelay -/
@[simp] theorem State.hostCallDelay_phase (n : BitVec 16) : (s.hostCallDelay n).phase = s.phase := rfl
@[simp] theorem State.hostCallDelay_pclkEn (n : BitVec 16) : (s.hostCallDelay n).pclkEn = s.pclkEn := rfl
@[simp] theorem State.hostCallDelay_ctrlOe (n : BitVec 16) : (s.hostCallDelay n).ctrlOe = s.ctrlOe := rfl
@[simp] theorem State.hostCallDelay_rs (n : BitVec 16) : (s.hostCallDelay n).rs = s.rs := rfl
@[simp] theorem State.hostCallDelay_rw (n : BitVec 16) : (s.hostCallDelay n).rw = s.rw := rfl
@[simp] theorem State.hostCallDelay_en (n : BitVec 16) : (s.hostCallDelay n).en = s.en := rfl
@[simp] theorem State.hostCallDelay_dir (n : BitVec 16) : (s.hostCallDelay n).dir = s.dir := rfl
@[simp] theorem State.hostCallDelay_dout (n : BitVec 16) : (s.hostCallDelay n).dout = s.dout := rfl
@[simp] theorem State.hostCallDelay_status (n : BitVec 16) : (s.hostCallDelay n).status = s.status := rfl
@[simp] theorem State.hostCallDelay_arg (n : BitVec 16) : (s.hostCallDelay n).arg = s.arg := rfl
@[simp] theorem State.hostCallDelay_op (n : BitVec 16) : (s.hostCallDelay n).op = s.op := rfl
@[simp] theorem State.hostCallDelay_upc (n : BitVec 16) : (s.hostCallDelay n).upc = s.upc := rfl
@[simp] theorem State.hostCallDelay_sub (n : BitVec 16) : (s.hostCallDelay n).sub = s.sub := rfl
@[simp] theorem State.hostCallDelay_dlyPend (n : BitVec 16) : (s.hostCallDelay n).dlyPend = s.dlyPend := rfl
@[simp] theorem State.hostCallDelay_dlyN (n : BitVec 16) : (s.hostCallDelay n).dlyN = n := rfl
@[simp] theorem State.hostCallDelay_trace (n : BitVec 16) : (s.hostCallDelay n).trace = s.trace ++ [.delay n.toNat] := rfl
@[simp] theorem State.hostCallDelay_xfer (n : BitVec 16) : (s.hostCallDelay n).xfer = s.xfer := rfl
@[simp] theorem State.hostCallDelay_resetIn (n : BitVec 16) : (s.hostCallDelay n).resetIn = s.resetIn := rfl
@[simp] theorem State.hostCallDelay_host (n : BitVec 16) : (s.hostCallDelay n).host = s.host := rfl
@[simp] theorem State.hostCallDelay_hostPend (n : BitVec 16) : (s.hostCallDelay n).hostPend = true := rfl
@[simp] theorem State.hostCallDelay_rom (n : BitVec 16) : (s.hostCallDelay n).rom = s.rom := rfl
@[simp] theorem State.hostCallDelay_pulseWrite (n : BitVec 16) : (s.hostCallDelay n).pulseWrite = s.pulseWrite := rfl
@[simp] theorem State.hostCallDelay_latched (n : BitVec 16) : (s.hostCallDelay n).latched = s.latched := rfl
@[simp] theorem State.hostCallDelay_refusals (n : BitVec 16) : (s.hostCallDelay n).refusals = s.refusals := rfl
@[simp] theorem State.hostCallDelay_samples (n : BitVec 16) : (s.hostCallDelay n).samples = s.samples := rfl
@[simp] theorem State.hostCallDelay_answers (n : BitVec 16) : (s.hostCallDelay n).answers = s.answers := rfl
@[simp] theorem State.hostCallDelay_draws (n : BitVec 16) : (s.hostCallDelay n).draws = s.draws := rfl

/-! ### delayMove -/
@[simp] theorem State.delayMove_phase : (s.delayMove).phase = s.phase := rfl
@[simp] theorem State.delayMove_pclkEn : (s.delayMove).pclkEn = s.pclkEn := rfl
@[simp] theorem State.delayMove_ctrlOe : (s.delayMove).ctrlOe = s.ctrlOe := rfl
@[simp] theorem State.delayMove_rs : (s.delayMove).rs = s.rs := rfl
@[simp] theorem State.delayMove_rw : (s.delayMove).rw = s.rw := rfl
@[simp] theorem State.delayMove_en : (s.delayMove).en = s.en := rfl
@[simp] theorem State.delayMove_dir : (s.delayMove).dir = s.dir := rfl
@[simp] theorem State.delayMove_dout : (s.delayMove).dout = s.dout := rfl
@[simp] theorem State.delayMove_status : (s.delayMove).status = s.status := rfl
@[simp] theorem State.delayMove_arg : (s.delayMove).arg = s.arg := rfl
@[simp] theorem State.delayMove_op : (s.delayMove).op = s.op := rfl
@[simp] theorem State.delayMove_upc : (s.delayMove).upc = s.upc := rfl
@[simp] theorem State.delayMove_sub : (s.delayMove).sub = s.sub := rfl
@[simp] theorem State.delayMove_dlyPend : (s.delayMove).dlyPend = (s.dlyPend && !s.nextAnswer) := rfl
@[simp] theorem State.delayMove_dlyN : (s.delayMove).dlyN = s.dlyN := rfl
@[simp] theorem State.delayMove_trace : (s.delayMove).trace = s.trace := rfl
@[simp] theorem State.delayMove_xfer : (s.delayMove).xfer = s.xfer := rfl
@[simp] theorem State.delayMove_resetIn : (s.delayMove).resetIn = s.resetIn := rfl
@[simp] theorem State.delayMove_host : (s.delayMove).host = s.host := rfl
@[simp] theorem State.delayMove_hostPend : (s.delayMove).hostPend = s.hostPend := rfl
@[simp] theorem State.delayMove_rom : (s.delayMove).rom = s.rom := rfl
@[simp] theorem State.delayMove_pulseWrite : (s.delayMove).pulseWrite = s.pulseWrite := rfl
@[simp] theorem State.delayMove_latched : (s.delayMove).latched = s.latched := rfl
@[simp] theorem State.delayMove_refusals : (s.delayMove).refusals = s.refusals := rfl
@[simp] theorem State.delayMove_samples : (s.delayMove).samples = s.samples := rfl
@[simp] theorem State.delayMove_answers : (s.delayMove).answers = s.answers.tail := rfl
@[simp] theorem State.delayMove_draws : (s.delayMove).draws = s.draws + 1 := rfl

/-! ### hostDelayMove -/
@[simp] theorem State.hostDelayMove_phase : (s.hostDelayMove).phase = s.phase := rfl
@[simp] theorem State.hostDelayMove_pclkEn : (s.hostDelayMove).pclkEn = s.pclkEn := rfl
@[simp] theorem State.hostDelayMove_ctrlOe : (s.hostDelayMove).ctrlOe = s.ctrlOe := rfl
@[simp] theorem State.hostDelayMove_rs : (s.hostDelayMove).rs = s.rs := rfl
@[simp] theorem State.hostDelayMove_rw : (s.hostDelayMove).rw = s.rw := rfl
@[simp] theorem State.hostDelayMove_en : (s.hostDelayMove).en = s.en := rfl
@[simp] theorem State.hostDelayMove_dir : (s.hostDelayMove).dir = s.dir := rfl
@[simp] theorem State.hostDelayMove_dout : (s.hostDelayMove).dout = s.dout := rfl
@[simp] theorem State.hostDelayMove_status : (s.hostDelayMove).status = s.status := rfl
@[simp] theorem State.hostDelayMove_arg : (s.hostDelayMove).arg = s.arg := rfl
@[simp] theorem State.hostDelayMove_op : (s.hostDelayMove).op = s.op := rfl
@[simp] theorem State.hostDelayMove_upc : (s.hostDelayMove).upc = s.upc := rfl
@[simp] theorem State.hostDelayMove_sub : (s.hostDelayMove).sub = s.sub := rfl
@[simp] theorem State.hostDelayMove_dlyPend : (s.hostDelayMove).dlyPend = s.dlyPend := rfl
@[simp] theorem State.hostDelayMove_dlyN : (s.hostDelayMove).dlyN = s.dlyN := rfl
@[simp] theorem State.hostDelayMove_trace : (s.hostDelayMove).trace = s.trace := rfl
@[simp] theorem State.hostDelayMove_xfer : (s.hostDelayMove).xfer = s.xfer := rfl
@[simp] theorem State.hostDelayMove_resetIn : (s.hostDelayMove).resetIn = s.resetIn := rfl
@[simp] theorem State.hostDelayMove_host : (s.hostDelayMove).host = s.host := rfl
@[simp] theorem State.hostDelayMove_hostPend : (s.hostDelayMove).hostPend = (s.hostPend && !s.nextAnswer) := rfl
@[simp] theorem State.hostDelayMove_rom : (s.hostDelayMove).rom = s.rom := rfl
@[simp] theorem State.hostDelayMove_pulseWrite : (s.hostDelayMove).pulseWrite = s.pulseWrite := rfl
@[simp] theorem State.hostDelayMove_latched : (s.hostDelayMove).latched = s.latched := rfl
@[simp] theorem State.hostDelayMove_refusals : (s.hostDelayMove).refusals = s.refusals := rfl
@[simp] theorem State.hostDelayMove_samples : (s.hostDelayMove).samples = s.samples := rfl
@[simp] theorem State.hostDelayMove_answers : (s.hostDelayMove).answers = s.answers.tail := rfl
@[simp] theorem State.hostDelayMove_draws : (s.hostDelayMove).draws = s.draws + 1 := rfl

/-! ### enterPhase -/
@[simp] theorem State.enterPhase_phase (p : Phase) : (s.enterPhase p).phase = p := rfl
@[simp] theorem State.enterPhase_pclkEn (p : Phase) : (s.enterPhase p).pclkEn = s.pclkEn := rfl
@[simp] theorem State.enterPhase_ctrlOe (p : Phase) : (s.enterPhase p).ctrlOe = s.ctrlOe := rfl
@[simp] theorem State.enterPhase_rs (p : Phase) : (s.enterPhase p).rs = s.rs := rfl
@[simp] theorem State.enterPhase_rw (p : Phase) : (s.enterPhase p).rw = s.rw := rfl
@[simp] theorem State.enterPhase_en (p : Phase) : (s.enterPhase p).en = s.en := rfl
@[simp] theorem State.enterPhase_dir (p : Phase) : (s.enterPhase p).dir = s.dir := rfl
@[simp] theorem State.enterPhase_dout (p : Phase) : (s.enterPhase p).dout = s.dout := rfl
@[simp] theorem State.enterPhase_status (p : Phase) : (s.enterPhase p).status = s.status := rfl
@[simp] theorem State.enterPhase_arg (p : Phase) : (s.enterPhase p).arg = s.arg := rfl
@[simp] theorem State.enterPhase_op (p : Phase) : (s.enterPhase p).op = s.op := rfl
@[simp] theorem State.enterPhase_upc (p : Phase) : (s.enterPhase p).upc = s.upc := rfl
@[simp] theorem State.enterPhase_sub (p : Phase) : (s.enterPhase p).sub = s.sub := rfl
@[simp] theorem State.enterPhase_dlyPend (p : Phase) : (s.enterPhase p).dlyPend = s.dlyPend := rfl
@[simp] theorem State.enterPhase_dlyN (p : Phase) : (s.enterPhase p).dlyN = s.dlyN := rfl
@[simp] theorem State.enterPhase_trace (p : Phase) : (s.enterPhase p).trace = s.trace := rfl
@[simp] theorem State.enterPhase_xfer (p : Phase) : (s.enterPhase p).xfer = s.xfer := rfl
@[simp] theorem State.enterPhase_resetIn (p : Phase) : (s.enterPhase p).resetIn = s.resetIn := rfl
@[simp] theorem State.enterPhase_host (p : Phase) : (s.enterPhase p).host = s.host := rfl
@[simp] theorem State.enterPhase_hostPend (p : Phase) : (s.enterPhase p).hostPend = s.hostPend := rfl
@[simp] theorem State.enterPhase_rom (p : Phase) : (s.enterPhase p).rom = s.rom := rfl
@[simp] theorem State.enterPhase_pulseWrite (p : Phase) : (s.enterPhase p).pulseWrite = s.pulseWrite := rfl
@[simp] theorem State.enterPhase_latched (p : Phase) : (s.enterPhase p).latched = s.latched := rfl
@[simp] theorem State.enterPhase_refusals (p : Phase) : (s.enterPhase p).refusals = s.refusals := rfl
@[simp] theorem State.enterPhase_samples (p : Phase) : (s.enterPhase p).samples = s.samples := rfl
@[simp] theorem State.enterPhase_answers (p : Phase) : (s.enterPhase p).answers = s.answers := rfl
@[simp] theorem State.enterPhase_draws (p : Phase) : (s.enterPhase p).draws = s.draws := rfl

/-! ### accept -/
@[simp] theorem State.accept_phase (o : OpCode) (a : Byte) : (s.accept o a).phase = s.phase := rfl
@[simp] theorem State.accept_pclkEn (o : OpCode) (a : Byte) : (s.accept o a).pclkEn = s.pclkEn := rfl
@[simp] theorem State.accept_ctrlOe (o : OpCode) (a : Byte) : (s.accept o a).ctrlOe = s.ctrlOe := rfl
@[simp] theorem State.accept_rs (o : OpCode) (a : Byte) : (s.accept o a).rs = s.rs := rfl
@[simp] theorem State.accept_rw (o : OpCode) (a : Byte) : (s.accept o a).rw = s.rw := rfl
@[simp] theorem State.accept_en (o : OpCode) (a : Byte) : (s.accept o a).en = s.en := rfl
@[simp] theorem State.accept_dir (o : OpCode) (a : Byte) : (s.accept o a).dir = s.dir := rfl
@[simp] theorem State.accept_dout (o : OpCode) (a : Byte) : (s.accept o a).dout = s.dout := rfl
@[simp] theorem State.accept_status (o : OpCode) (a : Byte) : (s.accept o a).status = s.status := rfl
@[simp] theorem State.accept_arg (o : OpCode) (a : Byte) : (s.accept o a).arg = a := rfl
@[simp] theorem State.accept_op (o : OpCode) (a : Byte) : (s.accept o a).op = o := rfl
@[simp] theorem State.accept_upc (o : OpCode) (a : Byte) : (s.accept o a).upc = 0 := rfl
@[simp] theorem State.accept_sub (o : OpCode) (a : Byte) : (s.accept o a).sub = .zero := rfl
@[simp] theorem State.accept_dlyPend (o : OpCode) (a : Byte) : (s.accept o a).dlyPend = s.dlyPend := rfl
@[simp] theorem State.accept_dlyN (o : OpCode) (a : Byte) : (s.accept o a).dlyN = s.dlyN := rfl
@[simp] theorem State.accept_trace (o : OpCode) (a : Byte) : (s.accept o a).trace = s.trace := rfl
@[simp] theorem State.accept_xfer (o : OpCode) (a : Byte) : (s.accept o a).xfer = s.xfer := rfl
@[simp] theorem State.accept_resetIn (o : OpCode) (a : Byte) : (s.accept o a).resetIn = s.resetIn := rfl
@[simp] theorem State.accept_host (o : OpCode) (a : Byte) : (s.accept o a).host = s.host := rfl
@[simp] theorem State.accept_hostPend (o : OpCode) (a : Byte) : (s.accept o a).hostPend = s.hostPend := rfl
@[simp] theorem State.accept_rom (o : OpCode) (a : Byte) : (s.accept o a).rom = s.rom := rfl
@[simp] theorem State.accept_pulseWrite (o : OpCode) (a : Byte) : (s.accept o a).pulseWrite = s.pulseWrite := rfl
@[simp] theorem State.accept_latched (o : OpCode) (a : Byte) : (s.accept o a).latched = s.latched := rfl
@[simp] theorem State.accept_refusals (o : OpCode) (a : Byte) : (s.accept o a).refusals = s.refusals := rfl
@[simp] theorem State.accept_samples (o : OpCode) (a : Byte) : (s.accept o a).samples = s.samples := rfl
@[simp] theorem State.accept_answers (o : OpCode) (a : Byte) : (s.accept o a).answers = s.answers := rfl
@[simp] theorem State.accept_draws (o : OpCode) (a : Byte) : (s.accept o a).draws = s.draws := rfl

/-! ### turnAway -/
@[simp] theorem State.turnAway_phase (r : Reason) : (s.turnAway r).phase = s.phase := rfl
@[simp] theorem State.turnAway_pclkEn (r : Reason) : (s.turnAway r).pclkEn = s.pclkEn := rfl
@[simp] theorem State.turnAway_ctrlOe (r : Reason) : (s.turnAway r).ctrlOe = s.ctrlOe := rfl
@[simp] theorem State.turnAway_rs (r : Reason) : (s.turnAway r).rs = s.rs := rfl
@[simp] theorem State.turnAway_rw (r : Reason) : (s.turnAway r).rw = s.rw := rfl
@[simp] theorem State.turnAway_en (r : Reason) : (s.turnAway r).en = s.en := rfl
@[simp] theorem State.turnAway_dir (r : Reason) : (s.turnAway r).dir = s.dir := rfl
@[simp] theorem State.turnAway_dout (r : Reason) : (s.turnAway r).dout = s.dout := rfl
@[simp] theorem State.turnAway_status (r : Reason) : (s.turnAway r).status = s.status := rfl
@[simp] theorem State.turnAway_arg (r : Reason) : (s.turnAway r).arg = s.arg := rfl
@[simp] theorem State.turnAway_op (r : Reason) : (s.turnAway r).op = s.op := rfl
@[simp] theorem State.turnAway_upc (r : Reason) : (s.turnAway r).upc = s.upc := rfl
@[simp] theorem State.turnAway_sub (r : Reason) : (s.turnAway r).sub = s.sub := rfl
@[simp] theorem State.turnAway_dlyPend (r : Reason) : (s.turnAway r).dlyPend = s.dlyPend := rfl
@[simp] theorem State.turnAway_dlyN (r : Reason) : (s.turnAway r).dlyN = s.dlyN := rfl
@[simp] theorem State.turnAway_trace (r : Reason) : (s.turnAway r).trace = s.trace := rfl
@[simp] theorem State.turnAway_xfer (r : Reason) : (s.turnAway r).xfer = s.xfer := rfl
@[simp] theorem State.turnAway_resetIn (r : Reason) : (s.turnAway r).resetIn = s.resetIn := rfl
@[simp] theorem State.turnAway_host (r : Reason) : (s.turnAway r).host = s.host := rfl
@[simp] theorem State.turnAway_hostPend (r : Reason) : (s.turnAway r).hostPend = s.hostPend := rfl
@[simp] theorem State.turnAway_rom (r : Reason) : (s.turnAway r).rom = s.rom := rfl
@[simp] theorem State.turnAway_pulseWrite (r : Reason) : (s.turnAway r).pulseWrite = s.pulseWrite := rfl
@[simp] theorem State.turnAway_latched (r : Reason) : (s.turnAway r).latched = s.latched := rfl
@[simp] theorem State.turnAway_refusals (r : Reason) : (s.turnAway r).refusals = s.refusals ++ [r] := rfl
@[simp] theorem State.turnAway_samples (r : Reason) : (s.turnAway r).samples = s.samples := rfl
@[simp] theorem State.turnAway_answers (r : Reason) : (s.turnAway r).answers = s.answers := rfl
@[simp] theorem State.turnAway_draws (r : Reason) : (s.turnAway r).draws = s.draws := rfl

/-! ### finish -/
@[simp] theorem State.finish_phase : (s.finish).phase = s.phase := rfl
@[simp] theorem State.finish_pclkEn : (s.finish).pclkEn = s.pclkEn := rfl
@[simp] theorem State.finish_ctrlOe : (s.finish).ctrlOe = s.ctrlOe := rfl
@[simp] theorem State.finish_rs : (s.finish).rs = s.rs := rfl
@[simp] theorem State.finish_rw : (s.finish).rw = s.rw := rfl
@[simp] theorem State.finish_en : (s.finish).en = s.en := rfl
@[simp] theorem State.finish_dir : (s.finish).dir = s.dir := rfl
@[simp] theorem State.finish_dout : (s.finish).dout = s.dout := rfl
@[simp] theorem State.finish_status : (s.finish).status = s.status := rfl
@[simp] theorem State.finish_arg : (s.finish).arg = s.arg := rfl
@[simp] theorem State.finish_op : (s.finish).op = .idle := rfl
@[simp] theorem State.finish_upc : (s.finish).upc = 0 := rfl
@[simp] theorem State.finish_sub : (s.finish).sub = .zero := rfl
@[simp] theorem State.finish_dlyPend : (s.finish).dlyPend = s.dlyPend := rfl
@[simp] theorem State.finish_dlyN : (s.finish).dlyN = s.dlyN := rfl
@[simp] theorem State.finish_trace : (s.finish).trace = s.trace := rfl
@[simp] theorem State.finish_xfer : (s.finish).xfer = s.xfer := rfl
@[simp] theorem State.finish_resetIn : (s.finish).resetIn = s.resetIn := rfl
@[simp] theorem State.finish_host : (s.finish).host = s.host := rfl
@[simp] theorem State.finish_hostPend : (s.finish).hostPend = s.hostPend := rfl
@[simp] theorem State.finish_rom : (s.finish).rom = s.rom := rfl
@[simp] theorem State.finish_pulseWrite : (s.finish).pulseWrite = s.pulseWrite := rfl
@[simp] theorem State.finish_latched : (s.finish).latched = s.latched := rfl
@[simp] theorem State.finish_refusals : (s.finish).refusals = s.refusals := rfl
@[simp] theorem State.finish_samples : (s.finish).samples = s.samples := rfl
@[simp] theorem State.finish_answers : (s.finish).answers = s.answers := rfl
@[simp] theorem State.finish_draws : (s.finish).draws = s.draws := rfl

/-! ### receive -/
@[simp] theorem State.receive_phase (r : Bool) (b : Byte) : (s.receive r b).phase = s.phase := rfl
@[simp] theorem State.receive_pclkEn (r : Bool) (b : Byte) : (s.receive r b).pclkEn = s.pclkEn := rfl
@[simp] theorem State.receive_ctrlOe (r : Bool) (b : Byte) : (s.receive r b).ctrlOe = s.ctrlOe := rfl
@[simp] theorem State.receive_rs (r : Bool) (b : Byte) : (s.receive r b).rs = s.rs := rfl
@[simp] theorem State.receive_rw (r : Bool) (b : Byte) : (s.receive r b).rw = s.rw := rfl
@[simp] theorem State.receive_en (r : Bool) (b : Byte) : (s.receive r b).en = s.en := rfl
@[simp] theorem State.receive_dir (r : Bool) (b : Byte) : (s.receive r b).dir = s.dir := rfl
@[simp] theorem State.receive_dout (r : Bool) (b : Byte) : (s.receive r b).dout = s.dout := rfl
@[simp] theorem State.receive_status (r : Bool) (b : Byte) : (s.receive r b).status = s.status := rfl
@[simp] theorem State.receive_arg (r : Bool) (b : Byte) : (s.receive r b).arg = s.arg := rfl
@[simp] theorem State.receive_op (r : Bool) (b : Byte) : (s.receive r b).op = s.op := rfl
@[simp] theorem State.receive_upc (r : Bool) (b : Byte) : (s.receive r b).upc = s.upc := rfl
@[simp] theorem State.receive_sub (r : Bool) (b : Byte) : (s.receive r b).sub = s.sub := rfl
@[simp] theorem State.receive_dlyPend (r : Bool) (b : Byte) : (s.receive r b).dlyPend = s.dlyPend := rfl
@[simp] theorem State.receive_dlyN (r : Bool) (b : Byte) : (s.receive r b).dlyN = s.dlyN := rfl
@[simp] theorem State.receive_trace (r : Bool) (b : Byte) : (s.receive r b).trace = s.trace := rfl
@[simp] theorem State.receive_xfer (r : Bool) (b : Byte) : (s.receive r b).xfer = s.xfer ++ [.write r b] := rfl
@[simp] theorem State.receive_resetIn (r : Bool) (b : Byte) : (s.receive r b).resetIn = s.resetIn := rfl
@[simp] theorem State.receive_host (r : Bool) (b : Byte) : (s.receive r b).host = s.host := rfl
@[simp] theorem State.receive_hostPend (r : Bool) (b : Byte) : (s.receive r b).hostPend = s.hostPend := rfl
@[simp] theorem State.receive_rom (r : Bool) (b : Byte) : (s.receive r b).rom = s.rom := rfl
@[simp] theorem State.receive_pulseWrite (r : Bool) (b : Byte) : (s.receive r b).pulseWrite = s.pulseWrite := rfl
@[simp] theorem State.receive_latched (r : Bool) (b : Byte) : (s.receive r b).latched = s.latched := rfl
@[simp] theorem State.receive_refusals (r : Bool) (b : Byte) : (s.receive r b).refusals = s.refusals := rfl
@[simp] theorem State.receive_samples (r : Bool) (b : Byte) : (s.receive r b).samples = s.samples := rfl
@[simp] theorem State.receive_answers (r : Bool) (b : Byte) : (s.receive r b).answers = s.answers := rfl
@[simp] theorem State.receive_draws (r : Bool) (b : Byte) : (s.receive r b).draws = s.draws := rfl

/-! ### powerUp -/
@[simp] theorem State.powerUp_phase : (s.powerUp).phase = .uninitialized := rfl
@[simp] theorem State.powerUp_pclkEn : (s.powerUp).pclkEn = 0 := rfl
@[simp] theorem State.powerUp_ctrlOe : (s.powerUp).ctrlOe = false := rfl
@[simp] theorem State.powerUp_rs : (s.powerUp).rs = Config.resetRs s.draws := rfl
@[simp] theorem State.powerUp_rw : (s.powerUp).rw = Config.resetRw s.draws := rfl
@[simp] theorem State.powerUp_en : (s.powerUp).en = Config.resetEn s.draws := rfl
@[simp] theorem State.powerUp_dir : (s.powerUp).dir = .input := rfl
@[simp] theorem State.powerUp_dout : (s.powerUp).dout = Config.resetDout s.draws := rfl
@[simp] theorem State.powerUp_status : (s.powerUp).status = Config.resetStatus s.draws := rfl
@[simp] theorem State.powerUp_arg : (s.powerUp).arg = Config.resetArg s.draws := rfl
@[simp] theorem State.powerUp_op : (s.powerUp).op = .idle := rfl
@[simp] theorem State.powerUp_upc : (s.powerUp).upc = 0 := rfl
@[simp] theorem State.powerUp_sub : (s.powerUp).sub = .zero := rfl
@[simp] theorem State.powerUp_dlyPend : (s.powerUp).dlyPend = false := rfl
@[simp] theorem State.powerUp_dlyN : (s.powerUp).dlyN = Config.resetDlyN s.draws := rfl
@[simp] theorem State.powerUp_trace : (s.powerUp).trace = [] := rfl
@[simp] theorem State.powerUp_xfer : (s.powerUp).xfer = [] := rfl
@[simp] theorem State.powerUp_resetIn : (s.powerUp).resetIn = false := rfl
@[simp] theorem State.powerUp_host : (s.powerUp).host = s.host := rfl
@[simp] theorem State.powerUp_hostPend : (s.powerUp).hostPend = s.hostPend := rfl
@[simp] theorem State.powerUp_rom : (s.powerUp).rom = s.rom := rfl
@[simp] theorem State.powerUp_pulseWrite : (s.powerUp).pulseWrite = false := rfl
@[simp] theorem State.powerUp_latched : (s.powerUp).latched = [] := rfl
@[simp] theorem State.powerUp_refusals : (s.powerUp).refusals = [] := rfl
@[simp] theorem State.powerUp_samples : (s.powerUp).samples = s.samples := rfl
@[simp] theorem State.powerUp_answers : (s.powerUp).answers = s.answers := rfl
@[simp] theorem State.powerUp_draws : (s.powerUp).draws = s.draws + 1 := rfl

/-! ### driveLine -/
@[simp] theorem State.driveLine_atRs (v : Bool) : s.driveLine .rs v = { s with rs := v } := rfl
@[simp] theorem State.driveLine_atRw (v : Bool) : s.driveLine .rw v = { s with rw := v } := rfl
@[simp] theorem State.driveLine_atEn (v : Bool) : s.driveLine .en v = s.driveEn v := rfl
@[simp] theorem State.driveLine_phase (l : Line) (v : Bool) : (s.driveLine l v).phase = s.phase := by cases l <;> rfl
@[simp] theorem State.driveLine_pclkEn (l : Line) (v : Bool) : (s.driveLine l v).pclkEn = s.pclkEn := by cases l <;> rfl
@[simp] theorem State.driveLine_ctrlOe (l : Line) (v : Bool) : (s.driveLine l v).ctrlOe = s.ctrlOe := by cases l <;> rfl
@[simp] theorem State.driveLine_dir (l : Line) (v : Bool) : (s.driveLine l v).dir = s.dir := by cases l <;> rfl
@[simp] theorem State.driveLine_dout (l : Line) (v : Bool) : (s.driveLine l v).dout = s.dout := by cases l <;> rfl
@[simp] theorem State.driveLine_status (l : Line) (v : Bool) : (s.driveLine l v).status = s.status := by cases l <;> rfl
@[simp] theorem State.driveLine_arg (l : Line) (v : Bool) : (s.driveLine l v).arg = s.arg := by cases l <;> rfl
@[simp] theorem State.driveLine_op (l : Line) (v : Bool) : (s.driveLine l v).op = s.op := by cases l <;> rfl
@[simp] theorem State.driveLine_upc (l : Line) (v : Bool) : (s.driveLine l v).upc = s.upc := by cases l <;> rfl
@[simp] theorem State.driveLine_sub (l : Line) (v : Bool) : (s.driveLine l v).sub = s.sub := by cases l <;> rfl
@[simp] theorem State.driveLine_dlyPend (l : Line) (v : Bool) : (s.driveLine l v).dlyPend = s.dlyPend := by cases l <;> rfl
@[simp] theorem State.driveLine_dlyN (l : Line) (v : Bool) : (s.driveLine l v).dlyN = s.dlyN := by cases l <;> rfl
@[simp] theorem State.driveLine_trace (l : Line) (v : Bool) : (s.driveLine l v).trace = s.trace := by cases l <;> rfl
@[simp] theorem State.driveLine_xfer (l : Line) (v : Bool) : (s.driveLine l v).xfer = s.xfer := by cases l <;> rfl
@[simp] theorem State.driveLine_resetIn (l : Line) (v : Bool) : (s.driveLine l v).resetIn = s.resetIn := by cases l <;> rfl
@[simp] theorem State.driveLine_host (l : Line) (v : Bool) : (s.driveLine l v).host = s.host := by cases l <;> rfl
@[simp] theorem State.driveLine_hostPend (l : Line) (v : Bool) : (s.driveLine l v).hostPend = s.hostPend := by cases l <;> rfl
@[simp] theorem State.driveLine_rom (l : Line) (v : Bool) : (s.driveLine l v).rom = s.rom := by cases l <;> rfl
@[simp] theorem State.driveLine_refusals (l : Line) (v : Bool) : (s.driveLine l v).refusals = s.refusals := by cases l <;> rfl
@[simp] theorem State.driveLine_samples (l : Line) (v : Bool) : (s.driveLine l v).samples = s.samples := by cases l <;> rfl
@[simp] theorem State.driveLine_answers (l : Line) (v : Bool) : (s.driveLine l v).answers = s.answers := by cases l <;> rfl
@[simp] theorem State.driveLine_draws (l : Line) (v : Bool) : (s.driveLine l v).draws = s.draws := by cases l <;> rfl

end Sys2Proof.Machine
end

