-- ==== Sys2Proof/Laws/Ops.lean ====
section
/-! SUPPORT. What each shared operation can do, said once: the shape lemmas the provers cite instead of unfolding. -/

namespace Sys2Proof

/-! ### Decoders -/

theorem withoutOperand_ok {b : Byte} {i j : Instr} (h : withoutOperand b i = .ok j) : b = 0 ∧ j = i := by
  unfold withoutOperand at h
  split at h
  · exact ⟨‹_›, (Except.ok.inj h).symm⟩
  · cases h

theorem decodeDir_ok {b : Byte} {i : Instr} (h : decodeDir b = .ok i) : ∃ d, i = .dir d := by
  unfold decodeDir at h
  split at h
  · exact ⟨_, (Except.ok.inj h).symm⟩
  · cases h

theorem decodeSet_ok {b : Byte} {i : Instr} (h : decodeSet b = .ok i) : ∃ l v, i = .setLine l v := by
  unfold decodeSet at h
  split at h
  · split at h <;> first | exact ⟨_, _, (Except.ok.inj h).symm⟩ | cases h
  · cases h

theorem decodePhase_ok {b : Byte} {i : Instr} (h : decodePhase b = .ok i) : ∃ p, i = .phase p := by
  unfold decodePhase at h
  split at h
  · split at h <;> first | exact ⟨_, (Except.ok.inj h).symm⟩ | cases h
  · cases h

/-- A micro word decodes to a micro-operation. -/
theorem decodeUw_format {w : Word12} {i : Instr} (h : decodeUw w = .ok i) : i.format = .uw := by
  unfold decodeUw at h
  split at h
  case h_4 => obtain ⟨d, rfl⟩ := decodeDir_ok h; rfl
  case h_5 => obtain ⟨l, v, rfl⟩ := decodeSet_ok h; rfl
  case h_12 => obtain ⟨p, rfl⟩ := decodePhase_ok h; rfl
  case h_7 => cases h; rfl
  case h_10 => cases h; rfl
  case h_11 => cases h; rfl
  case h_13 => cases h
  all_goals obtain ⟨-, rfl⟩ := withoutOperand_ok h; rfl

/-- A request word decodes to a request. -/
theorem decodeReq_format {w : Word12} {i : Instr} (h : decodeReq w = .ok i) : i.format = .req := by
  unfold decodeReq at h
  split at h
  case h_1 => obtain ⟨-, rfl⟩ := withoutOperand_ok h; rfl
  case h_3 => obtain ⟨-, rfl⟩ := withoutOperand_ok h; rfl
  case h_6 => cases h
  all_goals cases h; rfl

/-- A bus byte decodes to the command it is the code of. -/
theorem decodeBus_ok {b : Byte} {i : Instr} (h : decodeBus b = .ok i) :
    (i = .lcdBoot8 ∧ b = 0x30) ∨ (i = .lcdFunc ∧ b = 0x38) ∨ (i = .lcdEntry ∧ b = 0x06) ∨
    (i = .lcdClear ∧ b = 0x01) ∨ (i = .lcdDispon ∧ b = 0x0F) := by
  revert h
  unfold decodeBus
  split <;> rename_i hb <;> intro h <;> cases h
  · exact .inl ⟨rfl, BitVec.eq_of_toNat_eq hb⟩
  · exact .inr (.inl ⟨rfl, BitVec.eq_of_toNat_eq hb⟩)
  · exact .inr (.inr (.inl ⟨rfl, BitVec.eq_of_toNat_eq hb⟩))
  · exact .inr (.inr (.inr (.inl ⟨rfl, BitVec.eq_of_toNat_eq hb⟩)))
  · exact .inr (.inr (.inr (.inr ⟨rfl, BitVec.eq_of_toNat_eq hb⟩)))

namespace Machine

/-! ### Building a micro-program -/

/-- The words of a decoded listing decode one by one. -/
theorem decodeAll_ok {ws : List Word12} {p : List Instr} (h : decodeAll ws = .ok p) : ws.map decodeUw = p.map .ok := by
  induction ws generalizing p with
  | nil =>
    cases h
    rfl
  | cons w ws ih =>
    unfold decodeAll at h
    split at h
    · cases h
    · cases h
    · rename_i i q hw hq
      cases h
      rw [List.map_cons, List.map_cons, hw, ih hq]

/-- What a micro-program that is built is: the listing decoded, and well-formed in every respect (R89, R130, U1). -/
theorem build_ok {d : BusDir} {ws : List Word12} {p : List Instr} (h : build d ws = .ok p) :
    decodeAll ws = .ok p ∧ MicroProgram.endsOnce p = true ∧ MicroProgram.branchesInside p = true ∧
      MicroProgram.directionOk d p = true := by
  unfold build at h
  split at h
  · cases h
  · rename_i q hq
    split at h
    · cases h
    · split at h
      · cases h
      · split at h <;> cases h
        simp_all

/-! ### Requests -/

/-- Offering a request holds it, turns it away or accepts it. -/
theorem State.offer_cases (s : State) (o : OpCode) (a : Byte) :
    (s.op ≠ .idle ∧ s.offer o a = s) ∨
    (s.op = .idle ∧ ∃ r, s.objection o = some r ∧ s.offer o a = s.turnAway r) ∨
    (s.op = .idle ∧ s.objection o = none ∧ s.offer o a = s.accept o a) := by
  unfold State.offer
  split
  · cases h : s.objection o with
    | none => exact .inr (.inr ⟨‹_›, rfl, rfl⟩)
    | some r => exact .inr (.inl ⟨‹_›, r, rfl, rfl⟩)
  · exact .inl ⟨‹_›, rfl⟩

/-- Every request instruction is an offer. -/
theorem exec_request {i : Instr} (hi : i.format = .req) (s : State) :
    ∃ o a, o ≠ .idle ∧ exec i s = .next (s.offer o a) := by
  cases i <;> first
    | exact ⟨_, _, by decide, rfl⟩
    | cases hi

/-! ### The enable line -/

theorem State.driveEn_rise (s : State) :
    s.driveEn true = { s with en := true, pulseWrite := s.writeSelected } := rfl

theorem State.driveEn_fall (s : State) :
    s.driveEn false = { s with en := false, pulseWrite := false, latched := s.latched ++ (if s.pulseWrite then [(s.rs, s.dout)] else []) } := by
  unfold State.driveEn
  cases s.pulseWrite <;> simp

/-! ### Micro-operations -/

/-- What a micro-operation that gives a next state leaves alone, and that it appends at most one event. -/
structure MicroFrame (s t : State) : Prop where
  arg : t.arg = s.arg
  host : t.host = s.host
  hostPend : t.hostPend = s.hostPend
  rom : t.rom = s.rom
  refusals : t.refusals = s.refusals
  answers : t.answers = s.answers
  resetIn : t.resetIn = s.resetIn
  trace : t.trace = s.trace ∨ ∃ e, t.trace = s.trace ++ [e]

theorem exec_microFrame {i : Instr} {s t : State} (hi : i.format = .uw) (h : exec i s = .next t) : MicroFrame s t := by
  cases i with
  | endOp => cases h; exact ⟨rfl, rfl, rfl, rfl, rfl, rfl, rfl, .inl rfl⟩
  | clken => cases h; exact ⟨rfl, rfl, rfl, rfl, rfl, rfl, rfl, .inr ⟨_, rfl⟩⟩
  | cfgctl => cases h; exact ⟨rfl, rfl, rfl, rfl, rfl, rfl, rfl, .inr ⟨_, rfl⟩⟩
  | dir d => cases h; exact ⟨rfl, rfl, rfl, rfl, rfl, rfl, rfl, .inr ⟨_, rfl⟩⟩
  | setLine l v => cases l <;> cases h <;> exact ⟨rfl, rfl, rfl, rfl, rfl, rfl, rfl, .inr ⟨_, rfl⟩⟩
  | pulse =>
    simp only [exec, execPulse] at h
    split at h
    · cases h; exact ⟨rfl, rfl, rfl, rfl, rfl, rfl, rfl, .inr ⟨_, rfl⟩⟩
    · cases h; exact ⟨rfl, rfl, rfl, rfl, rfl, rfl, rfl, .inr ⟨_, rfl⟩⟩
    · split at h <;> cases h
      · exact ⟨rfl, rfl, rfl, rfl, rfl, rfl, rfl, .inl rfl⟩
      · exact ⟨rfl, rfl, rfl, rfl, rfl, rfl, rfl, .inr ⟨_, rfl⟩⟩
  | wri b =>
    simp only [exec, execWri] at h
    split at h <;> cases h
    exact ⟨rfl, rfl, rfl, rfl, rfl, rfl, rfl, .inr ⟨_, rfl⟩⟩
  | wra =>
    simp only [exec, execWra] at h
    split at h <;> cases h
    exact ⟨rfl, rfl, rfl, rfl, rfl, rfl, rfl, .inr ⟨_, rfl⟩⟩
  | rdbus =>
    simp only [exec, execRdbus] at h
    split at h <;> cases h
    exact ⟨rfl, rfl, rfl, rfl, rfl, rfl, rfl, .inr ⟨_, rfl⟩⟩
  | brbusy b => cases h; exact ⟨rfl, rfl, rfl, rfl, rfl, rfl, rfl, .inl rfl⟩
  | delay n =>
    simp only [exec, execDelay] at h
    split at h
    · cases h; exact ⟨rfl, rfl, rfl, rfl, rfl, rfl, rfl, .inr ⟨_, rfl⟩⟩
    · split at h <;> cases h <;> exact ⟨rfl, rfl, rfl, rfl, rfl, rfl, rfl, .inl rfl⟩
    · cases h
  | phase p => cases h; exact ⟨rfl, rfl, rfl, rfl, rfl, rfl, rfl, .inr ⟨_, rfl⟩⟩
  | init => cases hi
  | cmdu _ => cases hi
  | await => cases hi
  | cmd _ => cases hi
  | data _ => cases hi
  | lcdBoot8 => cases hi
  | lcdFunc => cases hi
  | lcdEntry => cases hi
  | lcdClear => cases hi
  | lcdDispon => cases hi

/-! ### The agents -/

/-- Agent LCD's step always puts the byte into XFER. -/
theorem lcdStep_eq (rs : Bool) (b : Byte) (s : State) : lcdStep rs b s = .next (s.receive rs b) := by
  unfold lcdStep
  cases rs with
  | true => rfl
  | false =>
    cases h : decodeBus b with
    | error r => rfl
    | ok i =>
      rcases decodeBus_ok h with ⟨rfl, rfl⟩ | ⟨rfl, rfl⟩ | ⟨rfl, rfl⟩ | ⟨rfl, rfl⟩ | ⟨rfl, rfl⟩ <;> rfl

/-- What stands at (OP, UPC), where it is a micro-operation. -/
theorem State.current_eq {s : State} {i : Instr} :
    s.current = some i ↔ (s.rom.program s.op)[s.upc]? = some i ∧ i.format = .uw := by
  unfold State.current
  split
  · rename_i j hj
    rw [hj]
    split
    · simp only [Option.some.injEq]
      exact ⟨fun e => ⟨e, e ▸ ‹_›⟩, And.left⟩
    · simp only [Option.some.injEq, reduceCtorEq, false_iff]
      rintro ⟨rfl, hf⟩
      contradiction
  · simp_all

theorem State.current_congr {s t : State} (h1 : t.rom = s.rom) (h2 : t.op = s.op) (h3 : t.upc = s.upc) :
    t.current = s.current := by
  unfold State.current
  rw [h1, h2, h3]

/-- What ENGINE's turn is when it gives a next state: agent DELAY's move where the micro-operation waits, else the
micro-operation at (OP, UPC). -/
theorem engineStep_cases {s t : State} (h : engineStep s = .next t) :
    ∃ i, s.current = some i ∧
      ((s.waitsAt i = true ∧ t = s.delayMove) ∨ (s.waitsAt i = false ∧ exec i s = .next t)) := by
  unfold engineStep at h
  split at h
  · cases h
  · rename_i i hi
    refine ⟨i, hi, ?_⟩
    cases hwait : s.waitsAt i with
    | true => exact .inl ⟨rfl, by simpa [hwait] using h.symm⟩
    | false => exact .inr ⟨rfl, by simpa [hwait] using h⟩

/-- What a move of HOST gives: a pause begun, or an offer held, turned away or accepted. -/
theorem hostMove_cases (m : HostMove) (s : State) :
    (∃ n, m = .pause n ∧ hostMove m s = .next (s.hostCallDelay n)) ∨
    (∃ w, m = .request w ∧ hostMove m s = .next (s.turnAway .reservedEncoding)) ∨
    (∃ w i o a, m = .request w ∧ decodeReq w = .ok i ∧ o ≠ .idle ∧ hostMove m s = .next (s.offer o a)) := by
  cases m with
  | pause n => exact .inl ⟨n, rfl, rfl⟩
  | request w =>
    cases h : decodeReq w with
    | error r => exact .inr (.inl ⟨w, rfl, by simp [hostMove, h]⟩)
    | ok i =>
      obtain ⟨o, a, ho, he⟩ := exec_request (decodeReq_format h) s
      exact .inr (.inr ⟨w, i, o, a, rfl, h, ho, by simp [hostMove, h, he]⟩)

/-- What a step that gives a next state is, by the agent that makes it. -/
inductive StepBy (s t : State) : Prop where
  | reset (h : s.resetIn = true) (eq : t = s.powerUp)
  | lcd (h : s.resetIn = false) (rs : Bool) (b : Byte) (rest : List (Bool × Byte)) (hl : s.latched = (rs, b) :: rest)
      (eq : t = ({ s with latched := rest } : State).receive rs b)
  | delay (h : s.resetIn = false) (hl : s.latched = []) (ho : s.op ≠ .idle) (i : Instr) (hi : s.current = some i)
      (hwait : s.waitsAt i = true) (eq : t = s.delayMove)
  | engine (h : s.resetIn = false) (hl : s.latched = []) (ho : s.op ≠ .idle) (i : Instr) (hi : s.current = some i)
      (hwait : s.waitsAt i = false) (eq : exec i s = .next t)
  | hostDelay (h : s.resetIn = false) (hl : s.latched = []) (ho : s.op = .idle) (hp : s.hostPend = true)
      (eq : t = s.hostDelayMove)
  | nothing (h : s.resetIn = false) (hl : s.latched = []) (ho : s.op = .idle) (hp : s.hostPend = false)
      (hm : s.host.next = none) (eq : t = s)
  | host (h : s.resetIn = false) (hl : s.latched = []) (ho : s.op = .idle) (hp : s.hostPend = false) (m : HostMove)
      (p : HostProgram) (hm : s.host.next = some (m, p)) (eq : hostMove m { s with host := p } = .next t)

theorem step_cases {s t : State} (h : step s = .next t) : StepBy s t := by
  unfold step at h
  split at h
  · exact .reset ‹_› (Host.Outcome.next.inj h).symm
  · rename_i hr
    have hr : s.resetIn = false := by simpa using hr
    unfold agentStep at h
    split at h
    · rename_i rs b rest hl
      rw [lcdStep_eq] at h
      exact .lcd hr rs b rest hl (Host.Outcome.next.inj h).symm
    · rename_i hl
      split at h
      · rename_i ho
        unfold hostStep at h
        split at h
        · exact .hostDelay hr hl ho ‹_› (Host.Outcome.next.inj h).symm
        · rename_i hp
          have hp : s.hostPend = false := by simpa using hp
          split at h
          · exact .nothing hr hl ho hp ‹_› (Host.Outcome.next.inj h).symm
          · exact .host hr hl ho hp _ _ ‹_› h
      · rename_i ho
        obtain ⟨i, hi, ⟨hwait, eq⟩ | ⟨hwait, eq⟩⟩ := engineStep_cases h
        · exact .delay hr hl ho i hi hwait eq
        · exact .engine hr hl ho i hi hwait eq

end Machine

end Sys2Proof
end

