-- ==== Sys2Proof/Laws/PerInstr.lean ====
section
/-! SUPPORT. Statements made per instruction, one lemma per constructor. -/

namespace Sys2Proof.Laws

/-- The encoder gives a word at the port of the instruction's format, with the code the table gives its row (R82, R84, R95). -/
def PortAndCode.Statement (i : Instr) : Prop :=
  match encode i with
  | .req w => i.format = .req ∧ 1 ≤ (codeField w).toNat ∧ (codeField w).toNat ≤ 5
  | .uw w => i.format = .uw ∧ (codeField w).toNat ≤ 11
  | .bus b => i.format = .bus ∧ b.toNat ∈ [0x30, 0x38, 0x06, 0x01, 0x0F]

/-- The code field of a word put together from its fields is the code. -/
theorem codeField_word (c : BitVec 4) (b : Byte) : codeField (word c b) = c := by
  unfold codeField word
  ext i hi
  simp only [BitVec.getElem_extractLsb', BitVec.getLsbD_append]
  rw [if_neg (by omega), show 8 + i - 8 = i by omega, BitVec.getLsbD_eq_getElem hi]

/-- The operand field of a word put together from its fields is the operand. -/
theorem operandField_word (c : BitVec 4) (b : Byte) : operandField (word c b) = b := by
  unfold operandField word
  ext i hi
  simp only [BitVec.getElem_extractLsb', BitVec.getLsbD_append]
  rw [if_pos (by omega), Nat.zero_add, BitVec.getLsbD_eq_getElem hi]

theorem PortAndCode.init : Statement .init := by simp [Statement, encode, codeField_word, Instr.format]
theorem PortAndCode.cmdu (code : Byte) : Statement (.cmdu code) := by simp [Statement, encode, codeField_word, Instr.format]
theorem PortAndCode.await : Statement .await := by simp [Statement, encode, codeField_word, Instr.format]
theorem PortAndCode.cmd (code : Byte) : Statement (.cmd code) := by simp [Statement, encode, codeField_word, Instr.format]
theorem PortAndCode.data (byte : Byte) : Statement (.data byte) := by simp [Statement, encode, codeField_word, Instr.format]
theorem PortAndCode.endOp : Statement .endOp := by simp [Statement, encode, codeField_word, Instr.format]
theorem PortAndCode.clken : Statement .clken := by simp [Statement, encode, codeField_word, Instr.format]
theorem PortAndCode.cfgctl : Statement .cfgctl := by simp [Statement, encode, codeField_word, Instr.format]
theorem PortAndCode.dir (d : BusDir) : Statement (.dir d) := by simp [Statement, encode, codeField_word, Instr.format]
theorem PortAndCode.setLine (l : Line) (v : Bool) : Statement (.setLine l v) := by
  simp [Statement, encode, codeField_word, Instr.format]
theorem PortAndCode.pulse : Statement .pulse := by simp [Statement, encode, codeField_word, Instr.format]
theorem PortAndCode.wri (i : Byte) : Statement (.wri i) := by simp [Statement, encode, codeField_word, Instr.format]
theorem PortAndCode.wra : Statement .wra := by simp [Statement, encode, codeField_word, Instr.format]
theorem PortAndCode.rdbus : Statement .rdbus := by simp [Statement, encode, codeField_word, Instr.format]
theorem PortAndCode.brbusy (t : Byte) : Statement (.brbusy t) := by simp [Statement, encode, codeField_word, Instr.format]
theorem PortAndCode.delay (n : Byte) : Statement (.delay n) := by simp [Statement, encode, codeField_word, Instr.format]
theorem PortAndCode.phase (p : Phase) : Statement (.phase p) := by simp [Statement, encode, codeField_word, Instr.format]
theorem PortAndCode.lcdBoot8 : Statement .lcdBoot8 := by simp [Statement, encode, Instr.format]
theorem PortAndCode.lcdFunc : Statement .lcdFunc := by simp [Statement, encode, Instr.format]
theorem PortAndCode.lcdEntry : Statement .lcdEntry := by simp [Statement, encode, Instr.format]
theorem PortAndCode.lcdClear : Statement .lcdClear := by simp [Statement, encode, Instr.format]
theorem PortAndCode.lcdDispon : Statement .lcdDispon := by simp [Statement, encode, Instr.format]

end Sys2Proof.Laws
end

