-- ==== Sys2Proof/Laws/Run.lean ====
section
/-! SUPPORT. Runs of several steps, one step or one stretch at a time. -/

namespace Sys2Proof.Machine

@[simp] theorem runSteps_zero (s : State) : runSteps 0 s = .next s := rfl

theorem core_run_next (M : Host.Core) {s t : M.State} (h : M.step s = .next t) (n : Nat) : M.run (n + 1) s = M.run n t := by
  simp only [Host.Core.run, h]

theorem core_run_fault (M : Host.Core) {s : M.State} {r : M.Fault} (h : M.step s = .fault r) (n : Nat) :
    M.run (n + 1) s = .fault r := by
  simp only [Host.Core.run, h]

theorem core_run_refused (M : Host.Core) {s : M.State} {r : M.Refusal} (h : M.step s = .refused r) (n : Nat) :
    M.run (n + 1) s = .refused r := by
  simp only [Host.Core.run, h]

/-- A run that begins with a step. -/
theorem runSteps_next {s t : State} (h : step s = .next t) (n : Nat) : runSteps (n + 1) s = runSteps n t :=
  core_run_next Sys2Proof.core h n

/-- The first step of a run that ends in a next state. -/
theorem runSteps_succ {s u : State} {n : Nat} (h : runSteps (n + 1) s = .next u) :
    ∃ t, step s = .next t ∧ runSteps n t = .next u := by
  cases hs : step s with
  | next t => exact ⟨t, rfl, by rwa [runSteps_next hs] at h⟩
  | fault r => cases (core_run_fault Sys2Proof.core hs n).symm.trans h
  | refused r => cases (core_run_refused Sys2Proof.core hs n).symm.trans h

/-- Two runs one after the other. -/
theorem runSteps_add {s t : State} {m : Nat} (h : runSteps m s = .next t) (n : Nat) :
    runSteps (m + n) s = runSteps n t := by
  induction m generalizing s with
  | zero =>
    cases h
    rw [Nat.zero_add]
  | succ m ih =>
    obtain ⟨u, hu, hm⟩ := runSteps_succ h
    rw [Nat.succ_add, runSteps_next hu, ih hm]

/-- An invariant that every step keeps holds at the end of every run. -/
theorem runSteps_keeps {P : State → Prop} (hstep : ∀ s t, P s → step s = .next t → P t) {n : Nat} {s t : State}
    (hs : P s) (h : runSteps n s = .next t) : P t := by
  induction n generalizing s with
  | zero =>
    cases h
    exact hs
  | succ n ih =>
    obtain ⟨u, hu, hn⟩ := runSteps_succ h
    exact ih (hstep s u hs hu) hn

/-- Where ENGINE's micro-operation does not wait, the step is its execution. -/
theorem step_eq_exec {s : State} (h : s.EngineTurn) {i : Instr} (hi : s.current = some i) (hn : s.waitsAt i = false) :
    step s = exec i s := by
  simp [step, agentStep, engineStep, h.resetIn, h.latched, h.op, hi, hn]

/-- Where ENGINE's micro-operation waits, the step is agent DELAY's. -/
theorem step_eq_delayMove {s : State} (h : s.EngineTurn) {i : Instr} (hi : s.current = some i)
    (hn : s.waitsAt i = true) : step s = .next s.delayMove := by
  simp [step, agentStep, engineStep, h.resetIn, h.latched, h.op, hi, hn]

/-! ### One micro-operation -/

theorem exec_pulse_zero {s : State} (h : s.sub = .zero) :
    exec .pulse s = .next (((s.driveEn true).emit (.line .en true)).setSub .one) := by
  simp only [exec, execPulse, h]

theorem exec_pulse_one {s : State} (h : s.sub = .one) :
    exec .pulse s = .next ((s.callDelay Config.tTick).setSub .two) := by
  simp only [exec, execPulse, h]

theorem exec_pulse_two {s : State} (h : s.sub = .two) (hp : s.dlyPend = false) :
    exec .pulse s = .next ((((s.driveEn false).emit (.line .en false)).setSub .zero).advance) := by
  simp only [exec, execPulse, h, hp]
  rfl

theorem exec_wri {s : State} {b : Byte} (h : s.dir = .output) : exec (.wri b) s = .next (s.driveBus b).advance := by
  simp only [exec, execWri, h]

theorem exec_wra {s : State} (h : s.dir = .output) : exec .wra s = .next (s.driveBus s.arg).advance := by
  simp only [exec, execWra, h]
  rfl

theorem exec_rdbus {s : State} (h : s.dir = .input) : exec .rdbus s = .next s.sampleBus.advance := by
  simp only [exec, execRdbus, h]

theorem exec_delay_zero {s : State} {n : Byte} (h : s.sub = .zero) :
    exec (.delay n) s = .next ((s.callDelay (delayArgument n)).setSub .one) := by
  simp only [exec, execDelay, h]

theorem exec_delay_one {s : State} {n : Byte} (h : s.sub = .one) (hp : s.dlyPend = false) :
    exec (.delay n) s = .next ((s.setSub .zero).advance) := by
  simp only [exec, execDelay, h, hp]
  rfl

/-- Agent LCD takes the oldest latched transfer. -/
theorem step_lcd {s : State} {rs : Bool} {b : Byte} {rest : List (Bool × Byte)} (h : s.resetIn = false)
    (hl : s.latched = (rs, b) :: rest) :
    step s = .next { s with latched := rest, xfer := s.xfer ++ [.write rs b] } := by
  simp [step, agentStep, h, hl, lcdStep_eq, State.receive]

/-- A run that begins with a micro-operation that does not wait. -/
theorem run_exec {s t : State} {i : Instr} (n : Nat) (h : s.EngineTurn) (hi : s.current = some i)
    (hn : s.waitsAt i = false) (he : exec i s = .next t) : runSteps (n + 1) s = runSteps n t :=
  runSteps_next ((step_eq_exec h hi hn).trans he) n

/-- A run that begins with a micro-operation of one step. -/
theorem run_oneStep {s t : State} (n : Nat) (i : Instr) (h : s.EngineTurn) (hi : s.current = some i)
    (hn : i ≠ .pulse ∧ ∀ n, i ≠ .delay n) (he : exec i s = .next t) : runSteps (n + 1) s = runSteps n t := by
  refine run_exec n h hi ?_ he
  cases i <;> simp_all [State.waitsAt]

/-- A run that begins with a wait of `m` steps and the answer (R11 `Wait`). -/
theorem run_wait {s : State} (n m : Nat) {more : List Bool} {i : Instr} (h : s.EngineTurn) (hi : s.current = some i)
    (hn : s.waitsAt i = true) (hp : s.dlyPend = true) (ha : s.answers = List.replicate m false ++ true :: more) :
    runSteps (n + (m + 1)) s = runSteps n { s with dlyPend := false, answers := more, draws := s.draws + (m + 1) } := by
  induction m generalizing s with
  | zero =>
    rw [runSteps_next (step_eq_delayMove h hi hn)]
    congr 1
    ext1 <;> simp [State.delayMove, State.nextAnswer, ha]
  | succ m ih =>
    rw [show n + (m + 1 + 1) = n + (m + 1) + 1 by omega, runSteps_next (step_eq_delayMove h hi hn)]
    have e : s.delayMove = { s with answers := List.replicate m false ++ true :: more, draws := s.draws + 1 } := by
      ext1 <;> simp [State.delayMove, State.nextAnswer, ha, hp, List.replicate_succ]
    rw [e]
    refine (ih (s := _) ?_ ?_ ?_ ?_ ?_).trans ?_
    · exact ⟨h.resetIn, h.latched, h.op⟩
    · exact hi
    · exact hn
    · exact hp
    · rfl
    · congr 1
      ext1 <;> simp
      omega

/-! ### Stretches of a micro-program -/

/-- A run that begins with a whole enable pulse, its tick answered after `m` steps; a write is left latched for agent LCD. -/
theorem run_pulse {s : State} (n m : Nat) {more : List Bool} (h : s.EngineTurn) (hi : s.current = some .pulse)
    (hs : s.sub = .zero) (ha : s.answers = List.replicate m false ++ true :: more) :
    runSteps (n + (m + 4)) s = runSteps n { s with
      en := false, pulseWrite := false, dlyN := 0, dlyPend := false, answers := more, draws := s.draws + (m + 1),
      upc := s.upc + 1, latched := if s.writeSelected then [(s.rs, s.dout)] else [],
      trace := s.trace ++ [.line .en true, .delay 0, .line .en false] } := by
  obtain ⟨s1, d1⟩ : ∃ x, x = ((s.driveEn true).emit (.line .en true)).setSub .one := ⟨_, rfl⟩
  have e1 := exec_pulse_zero hs
  rw [← d1] at e1
  have t1 : s1.EngineTurn := ⟨by simp [d1, h.resetIn], by simp [d1, h.latched], by simp [d1, h.op]⟩
  have i1 := (State.current_congr (s := s) (t := s1) (by simp [d1]) (by simp [d1]) (by simp [d1])).trans hi
  obtain ⟨s2, d2⟩ : ∃ x, x = (s1.callDelay Config.tTick).setSub .two := ⟨_, rfl⟩
  have e2 := exec_pulse_one (s := s1) (by simp [d1])
  rw [← d2] at e2
  have t2 : s2.EngineTurn := ⟨by simp [d2, t1.resetIn], by simp [d2, t1.latched], by simp [d2, t1.op]⟩
  have i2 := (State.current_congr (s := s1) (t := s2) (by simp [d2]) (by simp [d2]) (by simp [d2])).trans i1
  obtain ⟨s3, d3⟩ : ∃ x, x = ({ s2 with dlyPend := false, answers := more, draws := s2.draws + (m + 1) } : State) :=
    ⟨_, rfl⟩
  have t3 : s3.EngineTurn := ⟨by simp [d3, t2.resetIn], by simp [d3, t2.latched], by simp [d3, t2.op]⟩
  have i3 := (State.current_congr (s := s2) (t := s3) (by simp [d3]) (by simp [d3]) (by simp [d3])).trans i2
  have p3 : s3.dlyPend = false := by simp [d3]
  have e4 := exec_pulse_two (s := s3) (by simp [d3, d2]) p3
  rw [show n + (m + 4) = n + 1 + (m + 1) + 1 + 1 by omega, run_exec _ h hi (by simp [State.waitsAt, hs]) e1,
    run_exec _ t1 i1 (by simp [State.waitsAt, d1]) e2,
    run_wait (more := more) (n + 1) m t2 i2 (by simp [State.waitsAt, d2]) (by simp [d2]) (by simp [d2, d1, ha]), ← d3,
    run_exec n t3 i3 (by simp [State.waitsAt, p3]) e4]
  congr 1
  have pw : s3.pulseWrite = s.writeSelected := by simp [d3, d2, d1]
  have l3 := t3.latched
  ext1 <;> simp [pw, l3, p3]
  all_goals (try simp [d3])
  all_goals (try simp [d2, Config.tTick])
  all_goals (try simp [d1, hs])

/-- A run that begins with a whole delay, answered after `m` steps. -/
theorem run_delay {s : State} (n m : Nat) {more : List Bool} (k : Byte) (h : s.EngineTurn)
    (hi : s.current = some (.delay k)) (hs : s.sub = .zero)
    (ha : s.answers = List.replicate m false ++ true :: more) :
    runSteps (n + (m + 3)) s = runSteps n { s with
      dlyN := k.zeroExtend 16, dlyPend := false, answers := more, draws := s.draws + (m + 1), upc := s.upc + 1,
      trace := s.trace ++ [.delay k.toNat] } := by
  have e1 := exec_delay_zero (n := k) hs
  obtain ⟨s1, d1⟩ : ∃ x, x = ((s.callDelay (delayArgument k)).setSub .one) := ⟨_, rfl⟩
  rw [← d1] at e1
  have t1 : s1.EngineTurn := ⟨by simp [d1, h.resetIn], by simp [d1, h.latched], by simp [d1, h.op]⟩
  have i1 := (State.current_congr (s := s) (t := s1) (by simp [d1]) (by simp [d1]) (by simp [d1])).trans hi
  obtain ⟨s2, d2⟩ : ∃ x, x = ({ s1 with dlyPend := false, answers := more, draws := s1.draws + (m + 1) } : State) :=
    ⟨_, rfl⟩
  have t2 : s2.EngineTurn := ⟨by simp [d2, t1.resetIn], by simp [d2, t1.latched], by simp [d2, t1.op]⟩
  have i2 := (State.current_congr (s := s1) (t := s2) (by simp [d2]) (by simp [d2]) (by simp [d2])).trans i1
  have p2 : s2.dlyPend = false := by simp [d2]
  have e2 := exec_delay_one (s := s2) (n := k) (by simp [d2, d1]) p2
  rw [show n + (m + 3) = n + 1 + (m + 1) + 1 by omega, run_exec _ h hi (by simp [State.waitsAt, hs]) e1,
    run_wait (more := more) (n + 1) m t1 i1 (by simp [State.waitsAt, d1]) (by simp [d1]) (by simp [d1, ha]), ← d2,
    run_exec n t2 i2 (by simp [State.waitsAt, p2]) e2]
  congr 1
  ext1 <;> simp [p2]
  all_goals (try simp [d2])
  all_goals (try simp [d1, hs, delayArgument])
  omega

/-- A run that begins with one poll cycle: pulse, sample, test. -/
theorem run_pollCycle {s : State} (n m : Nat) {more : List Bool} {x : Byte} {rest : List Byte} (t : Byte)
    (h : s.EngineTurn) (h0 : (s.rom.program s.op)[s.upc]? = some .pulse)
    (h1 : (s.rom.program s.op)[s.upc + 1]? = some .rdbus) (h2 : (s.rom.program s.op)[s.upc + 2]? = some (.brbusy t))
    (hs : s.sub = .zero) (hd : s.dlyPend = false) (hdir : s.dir = .input)
    (hrw : s.rw = true) (ha : s.answers = List.replicate m false ++ true :: more) (hx : s.samples = x :: rest) :
    runSteps (n + (m + 6)) s = runSteps n { s with
      en := false, pulseWrite := false, dlyN := 0, answers := more, samples := rest, draws := s.draws + (m + 2),
      status := x, trace := s.trace ++ [.line .en true, .delay 0, .line .en false, .sample x],
      xfer := s.xfer ++ [.read s.rs x], upc := if isBusy x then t.toNat else s.upc + 3 } := by
  have hp := run_pulse (n + 2) m h (State.current_eq.2 ⟨h0, rfl⟩) hs ha
  rw [show n + (m + 6) = n + 2 + (m + 4) by omega, hp]
  clear hp
  obtain ⟨s1, d1⟩ : ∃ y, y = ({ s with
    en := false, pulseWrite := false, dlyN := 0, dlyPend := false, answers := more, draws := s.draws + (m + 1),
    upc := s.upc + 1, latched := if s.writeSelected then [(s.rs, s.dout)] else [],
    trace := s.trace ++ [.line .en true, .delay 0, .line .en false] } : State) := ⟨_, rfl⟩
  rw [← d1]
  have t1 : s1.EngineTurn := ⟨by simp [d1, h.resetIn], by simp [d1, State.writeSelected, hrw], by simp [d1, h.op]⟩
  have e1 := exec_rdbus (s := s1) (by simp [d1, hdir])
  rw [run_oneStep (n + 1) _ t1 (State.current_eq.2 ⟨by simpa [d1] using h1, rfl⟩) (by simp) e1]
  have t2 : (s1.sampleBus.advance).EngineTurn := ⟨t1.resetIn, t1.latched, t1.op⟩
  rw [run_oneStep n (.brbusy t) t2 (State.current_eq.2 ⟨by simpa [d1, Nat.add_assoc] using h2, rfl⟩) (by simp) (by rfl)]
  congr 1
  have := h.latched
  ext1 <;> simp [d1, State.writeSelected, hrw, State.nextSample, hx, State.busyFlag, branchTarget, hd, this]
  omega

/-- A run that begins with a whole poll loop: one cycle for each busy sample, and one for the ready sample; the calls are
answered after `ms` steps. -/
theorem run_pollLoop {s : State} (n : Nat) {more : List Bool} {rest : List Byte} (t : Byte)
    (ms : List Nat) (busy : List Byte) (b : Byte) (hm : ms.length = busy.length + 1)
    (hb : ∀ x ∈ busy, isBusy x = true) (hr : isBusy b = false) (h : s.EngineTurn)
    (ht : t.toNat = s.upc) (h0 : (s.rom.program s.op)[s.upc]? = some .pulse)
    (h1 : (s.rom.program s.op)[s.upc + 1]? = some .rdbus) (h2 : (s.rom.program s.op)[s.upc + 2]? = some (.brbusy t))
    (hs : s.sub = .zero) (hd : s.dlyPend = false) (hdir : s.dir = .input)
    (hrw : s.rw = true) (ha : s.answers = answersAfter ms ++ more) (hx : s.samples = busy ++ b :: rest) :
    runSteps (n + (ms.sum + 6 * (busy.length + 1))) s = runSteps n { s with
      en := false, pulseWrite := false, dlyN := 0, answers := more, samples := rest,
      draws := s.draws + (ms.sum + 2 * (busy.length + 1)), status := b,
      trace := s.trace ++ (busy ++ [b]).flatMap (fun x => [.line .en true, .delay 0, .line .en false, .sample x]),
      xfer := s.xfer ++ (busy ++ [b]).map (.read s.rs), upc := s.upc + 3 } := by
  induction busy generalizing s ms with
  | nil =>
    obtain ⟨m, rfl⟩ := List.length_eq_one_iff.1 hm
    have := run_pollCycle n m t h h0 h1 h2 hs hd hdir hrw (more := more) (x := b) (rest := rest)
      (by simpa [answersAfter] using ha) (by simpa using hx)
    simp only [List.length_nil, Nat.zero_add, Nat.mul_one, List.nil_append, List.sum_cons, List.sum_nil, Nat.add_zero]
    rw [this]
    simp [hr]
  | cons x busy ih =>
    obtain ⟨m, ms, rfl⟩ : ∃ m l, ms = m :: l := by
      cases ms with
      | nil => simp at hm
      | cons m l => exact ⟨m, l, rfl⟩
    have hx1 := hb x (by simp)
    have c := run_pollCycle (n + (ms.sum + 6 * (busy.length + 1))) m t h h0 h1 h2 hs hd hdir hrw
      (more := answersAfter ms ++ more) (x := x) (rest := busy ++ b :: rest)
      (by simpa [answersAfter] using ha) (by simpa using hx)
    rw [show n + ((m :: ms).sum + 6 * ((x :: busy).length + 1)) = n + (ms.sum + 6 * (busy.length + 1)) + (m + 6) by
      simp; omega, c, hx1]
    simp only [if_true, ht]
    refine (ih (s := _) ms (by simpa using hm) (fun y hy => hb y (by simp [hy])) ?_ ?_ ?_ ?_ ?_ ?_ ?_ ?_ ?_ ?_ ?_).trans ?_
    · exact ⟨h.resetIn, h.latched, h.op⟩
    · exact ht
    · exact h0
    · exact h1
    · exact h2
    · exact hs
    · exact hd
    · exact hdir
    · exact hrw
    · rfl
    · rfl
    · congr 1
      ext1 <;> simp
      omega

/-- A run that begins with a whole write cycle, the tick answered after `m` steps, the transfer taken by agent LCD. -/
theorem run_writeCycle {s : State} (n m : Nat) {more : List Bool} (rs : Bool) (b : Byte) (i : Instr)
    (h : s.EngineTurn) (h0 : (s.rom.program s.op)[s.upc]? = some (.setLine .rs rs))
    (h1 : (s.rom.program s.op)[s.upc + 1]? = some (.setLine .rw false))
    (h2 : (s.rom.program s.op)[s.upc + 2]? = some i) (h3 : (s.rom.program s.op)[s.upc + 3]? = some .pulse)
    (hi : i = .wri b ∨ (i = .wra ∧ s.arg = b)) (hs : s.sub = .zero) (hd : s.dlyPend = false) (hdir : s.dir = .output)
    (hoe : s.ctrlOe = true) (ha : s.answers = List.replicate m false ++ true :: more) :
    runSteps (n + (m + 8)) s = runSteps n { s with
      en := false, rs := rs, rw := false, dout := b, pulseWrite := false, dlyN := 0, answers := more,
      draws := s.draws + (m + 1), trace := s.trace ++ writeEvents rs b, xfer := s.xfer ++ [.write rs b],
      upc := s.upc + 4 } := by
  rw [show n + (m + 8) = n + 1 + (m + 4) + 1 + 1 + 1 by omega,
    run_oneStep _ _ h (State.current_eq.2 ⟨h0, rfl⟩) (by simp) (by rfl)]
  have t1 : (((s.driveLine .rs rs).emit (.line .rs rs)).advance).EngineTurn := ⟨h.resetIn, h.latched, h.op⟩
  rw [run_oneStep _ _ t1 (State.current_eq.2 ⟨h1, rfl⟩) (by simp) (by rfl)]
  obtain ⟨s2, d2⟩ : ∃ y, y = (((((s.driveLine .rs rs).emit (.line .rs rs)).advance).driveLine .rw false).emit
    (.line .rw false)).advance := ⟨_, rfl⟩
  rw [← d2]
  have t2 : s2.EngineTurn := ⟨by simp [d2, h.resetIn], by simp [d2, h.latched], by simp [d2, h.op]⟩
  have e2 : exec i s2 = .next (s2.driveBus b).advance := by
    have hdd : s2.dir = .output := by simp [d2, hdir]
    rcases hi with rfl | ⟨rfl, harg⟩
    · exact exec_wri hdd
    · have : s2.arg = b := by simp [d2, harg]
      rw [exec_wra hdd, this]
  have hf : i.format = .uw := by rcases hi with rfl | ⟨rfl, _⟩ <;> rfl
  rw [run_oneStep _ _ t2 (State.current_eq.2 ⟨by simpa [d2] using h2, hf⟩) (by rcases hi with rfl | ⟨rfl, _⟩ <;> simp) e2]
  have t3 : ((s2.driveBus b).advance).EngineTurn := ⟨t2.resetIn, t2.latched, t2.op⟩
  rw [run_pulse (n + 1) m t3 (State.current_eq.2 ⟨by simpa [d2] using h3, rfl⟩) (by simp [d2, hs])
    (by simp [d2]; exact ha)]
  have hws : ((s2.driveBus b).advance).writeSelected = true := by simp [State.writeSelected, d2, hdir, hoe]
  refine (runSteps_next (step_lcd (rs := rs) (b := b) (rest := []) ?_ ?_) n).trans ?_
  · simpa using t2.resetIn
  · simp only [hws]
    simp [d2]
  · congr 1
    have := h.latched
    ext1 <;> simp [d2, hd, writeEvents, this]

/-- A run that begins with a whole poll window, its calls answered after `ms` steps. -/
theorem run_pollWindow {s : State} (n : Nat) {more : List Bool} {rest : List Byte} (t : Byte) (ms : List Nat)
    (bs : List Byte) (hm : ms.length = bs.length) (hb : PollsUntilReady bs) (h : s.EngineTurn)
    (ht : t.toNat = s.upc + 3)
    (hw : ∀ k < 8, (s.rom.program s.op)[s.upc + k]? = [.dir .input, .setLine .rs false, .setLine .rw true, .pulse, .rdbus,
      .brbusy t, .setLine .rw false, .dir .output][k]?)
    (hs : s.sub = .zero) (hd : s.dlyPend = false) (ha : s.answers = answersAfter ms ++ more)
    (hx : s.samples = bs ++ rest) :
    runSteps (n + (ms.sum + (5 + 6 * bs.length))) s = runSteps n { s with
      dir := .output, rs := false, rw := false, en := false, pulseWrite := false, dlyN := 0, answers := more,
      samples := rest, draws := s.draws + (ms.sum + 2 * bs.length), status := bs.getLastD s.status,
      trace := s.trace ++ pollEvents bs, xfer := s.xfer ++ pollEntries bs, upc := s.upc + 8 } := by
  obtain ⟨busy, b, rfl, hbb, hr⟩ := hb
  rw [show n + (ms.sum + (5 + 6 * (busy ++ [b]).length)) = (n + 2 + (ms.sum + 6 * (busy.length + 1))) + 1 + 1 + 1 by
    simp; omega]
  rw [run_oneStep _ (.dir .input) h (State.current_eq.2 ⟨hw 0 (by decide), rfl⟩) (by simp) (by rfl)]
  have t1 : (((s.turnBus .input).emit (.dir .input)).advance).EngineTurn := ⟨h.resetIn, h.latched, h.op⟩
  rw [run_oneStep _ (.setLine .rs false) t1 (State.current_eq.2 ⟨hw 1 (by decide), rfl⟩) (by simp) (by rfl)]
  obtain ⟨s2, d2⟩ : ∃ y, y = (((((s.turnBus .input).emit (.dir .input)).advance.driveLine .rs false).emit
    (.line .rs false)).advance) := ⟨_, rfl⟩
  rw [← d2]
  have t2 : s2.EngineTurn := ⟨by simp [d2, h.resetIn], by simp [d2, h.latched], by simp [d2, h.op]⟩
  rw [run_oneStep _ (.setLine .rw true) t2 (State.current_eq.2 ⟨by simpa [d2] using hw 2 (by decide), rfl⟩) (by simp)
    (by rfl)]
  obtain ⟨s3, d3⟩ : ∃ y, y = ((s2.driveLine .rw true).emit (.line .rw true)).advance := ⟨_, rfl⟩
  rw [← d3]
  have t3 : s3.EngineTurn := ⟨by simp [d3, t2.resetIn], by simp [d3, t2.latched], by simp [d3, t2.op]⟩
  have u3 : s3.upc = s.upc + 3 := by simp [d3, d2]
  have r3 : s3.rom.program s3.op = s.rom.program s.op := by simp [d3, d2]
  rw [run_pollLoop (n + 2) t ms busy b (by simpa using hm) hbb hr t3 (by omega) (by rw [r3, u3]; exact hw 3 (by decide))
    (by rw [r3, u3]; exact hw 4 (by decide)) (by rw [r3, u3]; exact hw 5 (by decide))
    (by simp [d3, d2, hs]) (by simp [d3, d2, hd]) (by simp [d3, d2]) (by simp [d3]) (more := more) (rest := rest)
    (by simp [d3, d2, ha]) (by simp [d3, d2, hx])]
  obtain ⟨s4, d4⟩ : ∃ y, y = ({ s3 with
    en := false, pulseWrite := false, dlyN := 0, answers := more, samples := rest,
    draws := s3.draws + (ms.sum + 2 * (busy.length + 1)), status := b,
    trace := s3.trace ++ (busy ++ [b]).flatMap (fun x => [.line .en true, .delay 0, .line .en false, .sample x]),
    xfer := s3.xfer ++ (busy ++ [b]).map (.read s3.rs), upc := s3.upc + 3 } : State) := ⟨_, rfl⟩
  rw [← d4]
  have t4 : s4.EngineTurn := ⟨by simp [d4, t3.resetIn], by simp [d4, t3.latched], by simp [d4, t3.op]⟩
  rw [run_oneStep (n + 1) (.setLine .rw false) t4
    (State.current_eq.2 ⟨by simpa [d4, r3, u3] using hw 6 (by decide), rfl⟩) (by simp) (by rfl)]
  have t5 : (((s4.driveLine .rw false).emit (.line .rw false)).advance).EngineTurn :=
    ⟨t4.resetIn, t4.latched, t4.op⟩
  rw [run_oneStep n (.dir .output) t5 (State.current_eq.2 ⟨by simpa [d4, r3, u3] using hw 7 (by decide), rfl⟩) (by simp)
    (by rfl)]
  congr 1
  ext1 <;> simp [d4]
  all_goals (try simp [d3])
  all_goals (try simp [d2, pollEvents, pollEntries])

end Sys2Proof.Machine
end

