-- ==== Sys2Proof/Tests/Slice0.lean ====
section
/-! SUPPORT. The model's own tests, each with its source in spec/, and a witness for the hypotheses of every obligation. -/

namespace Sys2Proof.Tests

open Sys2Proof Sys2Proof.Machine

/-! ### Small states -/

/-- S_OPER of 95_test_vectors.md, with the three bootstrap writes in XFER. -/
def oper : State :=
  { State.reset with
    phase := .operational, pclkEn := 0b11, ctrlOe := true, dir := .output, rs := false, rw := false, en := false
    dout := 0x0F, status := 0x00, arg := 0x00, dlyN := 0
    xfer := [.write false 0x30, .write false 0x30, .write false 0x30] }

/-- S_RESET of 95_test_vectors.md, its unspecified values put to ones. -/
def boot : State :=
  { State.reset with rs := true, rw := true, en := true, dout := 0xFF, status := 0xFF, arg := 0xFF, dlyN := 0xFFFF }

/-- `s` with HOST about to offer `w`. -/
def offering (w : Word12) (s : State) : State := { s with host := ⟨[.request w], [], false⟩ }

/-- The idle block of `oper` as it stands at index `k` of AWAIT. -/
def awaitAt (k : Nat) : State := { oper with op := .await, upc := k }

/-- In the poll loop of AWAIT at index `k`: bus turned, read selected. -/
def pollAt (k : Nat) : State := { awaitAt k with dir := .input, rw := true }

/-- A next state of which `f` holds. -/
def after (r : Result) (f : State → Bool) : Bool :=
  match r with
  | .next t => f t
  | _ => false

/-! ### Well-formedness refuses ill-formed terms -/

theorem smoke_branch_too_far : Instr.wf (.brbusy 70) = false := by decide
theorem smoke_branch_in_range : Instr.wf (.brbusy 69) = true := by decide
theorem smoke_phase_uninitialized : Instr.wf (.phase .uninitialized) = false := by decide
theorem smoke_request_in_micro_program : MicroProgram.onlyMicro [.cmd 1, .endOp] = false := by decide
theorem smoke_no_end : MicroProgram.endsOnce [.clken] = false := by decide
theorem smoke_end_twice : MicroProgram.endsOnce [.endOp, .clken, .endOp] = false := by decide
theorem smoke_branch_to_end : MicroProgram.branchesInside [.brbusy 1, .endOp] = false := by decide
theorem smoke_write_while_input : MicroProgram.directionOk .input [.wri 0x30, .endOp] = false := by decide
theorem smoke_argument_write_while_input : MicroProgram.directionOk .output [.dir .input, .wra, .endOp] = false := by decide
theorem smoke_sample_while_output : MicroProgram.directionOk .output [.rdbus, .endOp] = false := by decide
theorem smoke_branch_over_turn : MicroProgram.directionOk .output [.clken, .dir .input, .brbusy 0, .endOp] = false := by
  decide
theorem smoke_ill_formed_program : MicroProgram.wf .input [.wri 0x30, .endOp] = false := by decide

/-! ### Building a micro-program refuses what R89, R130 and U1 exclude -/

/-- T-SET-7, T-PHASE-3 and three words of T-UW-RES, in front of an END. -/
theorem smoke_build_reserved_word :
    ([0x406, 0x407, 0xB05, 0xC00, 0x101, 0x302] : List Word12).all
      (fun w => match build .output [w, 0x000] with | .error (.reservedWord _) => true | _ => false) = true := by decide
/-- A branch past the END, and one to the END itself (R89). -/
theorem smoke_build_branch_past_end :
    build .output [0x903, 0x000] = .error .branchPastEnd ∧ build .output [0x901, 0x000] = .error .branchPastEnd := ⟨rfl, rfl⟩
theorem smoke_build_end : build .output [0x100] = .error .endMisplaced ∧ build .output [0x000, 0x000] = .error .endMisplaced :=
  ⟨rfl, rfl⟩
theorem smoke_build_direction : build .input [0x630, 0x000] = .error .busDirection := rfl
/-- A micro-program that R89 does not exclude is built. -/
theorem test_build : build .input [0x301, 0x630, 0x901, 0x000] = .ok [.dir .output, .wri 0x30, .brbusy 1, .endOp] := rfl

/-! ### Decoding: words written out from 30_encoding.md R82, R84, R85, R95 -/

theorem test_decode_requests :
    decode (.req 0b0001_00000000) = .ok .init ∧ decode (.req 0b0010_00110000) = .ok (.cmdu 0x30) ∧
    decode (.req 0b0011_00000000) = .ok .await ∧ decode (.req 0b0100_00000001) = .ok (.cmd 0x01) ∧
    decode (.req 0b0101_01001000) = .ok (.data 0x48) := ⟨rfl, rfl, rfl, rfl, rfl⟩

theorem test_decode_pins :
    decode (.uw 0b0001_00000000) = .ok .clken ∧ decode (.uw 0b0010_00000000) = .ok .cfgctl ∧
    decode (.uw 0b0011_00000000) = .ok (.dir .input) ∧ decode (.uw 0b0011_00000001) = .ok (.dir .output) ∧
    decode (.uw 0b0101_00000000) = .ok .pulse ∧ decode (.uw 0b0110_00111000) = .ok (.wri 0x38) ∧
    decode (.uw 0b0111_00000000) = .ok .wra ∧ decode (.uw 0b1000_00000000) = .ok .rdbus :=
  ⟨rfl, rfl, rfl, rfl, rfl, rfl, rfl, rfl⟩

theorem test_decode_set :
    decode (.uw 0b0100_00000_00_0) = .ok (.setLine .rs false) ∧ decode (.uw 0b0100_00000_00_1) = .ok (.setLine .rs true) ∧
    decode (.uw 0b0100_00000_01_0) = .ok (.setLine .rw false) ∧ decode (.uw 0b0100_00000_01_1) = .ok (.setLine .rw true) ∧
    decode (.uw 0b0100_00000_10_0) = .ok (.setLine .en false) ∧ decode (.uw 0b0100_00000_10_1) = .ok (.setLine .en true) :=
  ⟨rfl, rfl, rfl, rfl, rfl, rfl⟩

theorem test_decode_sequencer :
    decode (.uw 0b0000_00000000) = .ok .endOp ∧ decode (.uw 0b1001_00111101) = .ok (.brbusy 61) ∧
    decode (.uw 0b1010_11111111) = .ok (.delay 255) ∧ decode (.uw 0b1011_00000_001) = .ok (.phase .bootstrappingA) ∧
    decode (.uw 0b1011_00000_010) = .ok (.phase .bootstrappingB) ∧
    decode (.uw 0b1011_00000_011) = .ok (.phase .bootstrappingC) ∧
    decode (.uw 0b1011_00000_100) = .ok (.phase .operational) := ⟨rfl, rfl, rfl, rfl, rfl, rfl, rfl⟩

theorem test_decode_commands :
    decode (.bus 0b0011_0000) = .ok .lcdBoot8 ∧ decode (.bus 0b0011_1000) = .ok .lcdFunc ∧
    decode (.bus 0b0000_0110) = .ok .lcdEntry ∧ decode (.bus 0b0000_0001) = .ok .lcdClear ∧
    decode (.bus 0b0000_1111) = .ok .lcdDispon ∧ decode (.bus 0x48) = .error .notACommandByte := ⟨rfl, rfl, rfl, rfl, rfl, rfl⟩

/-- T-SET-7, T-PHASE-3, T-UW-RES. -/
theorem test_reserved_micro_words :
    ([0x406, 0x407, 0xB05, 0xB06, 0xB07, 0xC00, 0xD00, 0xE00, 0xFFF, 0x101, 0x302, 0x408] : List Word12).all
      (fun w => (decodeUw w).toOption.isNone) = true := by decide

/-- R88. -/
theorem test_reserved_requests :
    ([0x000, 0x0FF, 0x600, 0xF00, 0x101, 0x301] : List Word12).all (fun w => (decodeReq w).toOption.isNone) = true := by
  decide

/-- Log 19: a word that is a request is read as one, a word that is none as a micro word, eight bits as a bus byte. -/
theorem test_table_words :
    decodeTableWord 12 0x100 = some .init ∧ decodeTableWord 12 0x600 = some (.wri 0x00) ∧
    decodeTableWord 12 0x000 = some .endOp ∧ decodeTableWord 8 0x01 = some .lcdClear := ⟨rfl, rfl, rfl, rfl⟩

/-- Log 19: the micro-program a micro word is placed in is built around it, whatever it needs. -/
theorem test_placed_words :
    (State.reset.withFetchWord 12 0x630).current = some (.wri 0x30) ∧
    (State.reset.withFetchWord 12 0x945).current = some (.brbusy 69) ∧
    (State.reset.withFetchWord 12 0x800).current = some .rdbus := ⟨rfl, rfl, rfl⟩

/-! ### One step -/

/-- T-CLKEN-1. -/
theorem test_clken : after (exec .clken boot) (fun t => t.pclkEn == 0b11 && t.upc == 1 && t.trace == [.clkEn]) = true := by
  decide
/-- T-CFGCTL-1. -/
theorem test_cfgctl :
    after (exec .cfgctl boot) (fun t => t.ctrlOe && !t.rs && !t.rw && !t.en && t.trace == [.ctlCfg]) = true := by decide
/-- T-DIR-1. -/
theorem test_dir : after (exec (.dir .input) oper) (fun t => t.dir == .input && t.dout == 0x0F) = true := by decide
/-- T-SET-4. -/
theorem test_set : after (exec (.setLine .rw true) { oper with dir := .input }) (fun t => t.rw && !t.rs && !t.en) = true := by
  decide
/-- T-PULSE-4, its three steps: the first, the second, and the third after the answer. -/
theorem test_pulse_rise : after (exec .pulse oper) (fun t => t.en && t.sub == .one && t.upc == 0) = true := by decide
theorem test_pulse_fall :
    after (exec .pulse { oper with en := true, sub := .two, rs := true, dout := 0x48, pulseWrite := true })
      (fun t => !t.en && t.sub == .zero && t.upc == 1 && t.latched == [(true, 0x48)]) = true := by decide
/-- T-WRI-2, T-WRI-5. -/
theorem test_wri : after (exec (.wri 0x38) oper) (fun t => t.dout == 0x38 && t.trace == [.bus 0x38]) = true := by decide
theorem test_wri_while_input : exec (.wri 0x30) { oper with dir := .input } = .fault .busIsInput := rfl
/-- T-WRA-1. -/
theorem test_wra : after (exec .wra { oper with arg := 0x48 }) (fun t => t.dout == 0x48) = true := by decide
/-- T-RDBUS-4, T-RDBUS-3. -/
theorem test_rdbus :
    after (exec .rdbus { oper with dir := .input, dout := 0xAA, samples := [0x55] })
      (fun t => t.status == 0x55 && t.dout == 0xAA && t.xfer.getLast? == some (.read false 0x55)) = true := by decide
theorem test_rdbus_while_output : exec .rdbus oper = .fault .busIsOutput := rfl
/-- T-END-1. -/
theorem test_end :
    after (exec .endOp { oper with op := .cmd, upc := 12, arg := 1 }) (fun t => t.op == .idle && t.upc == 0 && t.arg == 1) = true := by
  decide
/-- T-BRBUSY-3, T-BRBUSY-5. -/
theorem test_brbusy_ready : after (exec (.brbusy 3) { pollAt 5 with status := 0x7F }) (fun t => t.upc == 6) = true := by decide
theorem test_brbusy_busy :
    after (exec (.brbusy 25) { pollAt 27 with op := .init, status := 0x80 }) (fun t => t.upc == 25) = true := by decide
/-- T-DELAY-1, T-DELAY-4. -/
theorem test_delay_call :
    after (exec (.delay 30) oper) (fun t => t.sub == .one && t.dlyPend && t.dlyN == 0x001E && t.trace == [.delay 30]) = true := by
  decide
theorem test_delay_zero_extends : after (exec (.delay 255) oper) (fun t => t.dlyN == 0x00FF) = true := by decide
/-- T-PHASE-1. -/
theorem test_phase :
    after (exec (.phase .bootstrappingA) boot) (fun t => t.phase == .bootstrappingA && t.trace == [.phase .bootstrappingA]) = true := by
  decide
/-- T-ACC-1. -/
theorem test_data_accepted :
    after (exec (.data 0x48) oper) (fun t => t.op == .data && t.arg == 0x48 && t.upc == 0 && t.trace == []) = true := by decide
/-- T-ACC-2. -/
theorem test_command_held : after (exec (.cmd 1) { oper with op := .data }) (fun t => t == { oper with op := .data }) = true := by
  decide
/-- P4, lines 1, 3, 5, 6 and 7. -/
theorem test_init_admitted : after (exec .init boot) (fun t => t.op == .init && t.arg == 0) = true := by decide
theorem test_init_refused : after (exec .init oper) (fun t => t.op == .idle && t.refusals == [.alreadyInitialized]) = true := by
  decide
theorem test_command_refused : after (exec (.cmd 1) boot) (fun t => t.op == .idle && t.refusals == [.notOperational]) = true := by
  decide
theorem test_unchecked_refused_before :
    after (exec (.cmdu 0x30) boot) (fun t => t.op == .idle && t.refusals == [.busNotConfigured]) = true := by decide
theorem test_unchecked_refused_after :
    after (exec (.cmdu 0x30) oper) (fun t => t.op == .idle && t.refusals == [.uncheckedWhenOperational]) = true := by decide
/-- R187, column O. -/
theorem test_await_admitted : after (exec .await oper) (fun t => t.op == .await) = true := by decide
/-- R95. -/
theorem test_clear_reaches_controller :
    after (exec .lcdClear oper) (fun t => t.xfer.getLast? == some (.write false 0x01)) = true := by decide
/-- The events of T-AWAIT-2. -/
theorem test_poll_events :
    pollEvents [0x80, 0x00] =
      [.dir .input, .line .rs false, .line .rw true, .line .en true, .delay 0, .line .en false, .sample 0x80,
       .line .en true, .delay 0, .line .en false, .sample 0x00, .line .rw false, .dir .output] := by decide
/-- The moves of P2, lines 1 to 8. -/
theorem test_run_hello :
    runIteration Config.msg Config.tPace =
      [.request 0x548, .request 0x565, .request 0x56C, .request 0x56C, .request 0x56F, .pause 500, .request 0x401,
       .pause 500] := by decide
/-- R33: REQ_READY. -/
theorem test_req_ready : (offering 0x548 oper).reqReady = true ∧ (offering 0x100 oper).reqReady = false := ⟨rfl, rfl⟩
/-- R170, RUN while an operation runs and at the idle block; T-HANG-1, an offer held while AWAIT runs. -/
theorem test_req_valid :
    ({ awaitAt 3 with host := runDefault } : State).reqValid = false ∧ ({ oper with host := runDefault } : State).reqValid = true ∧
    ({ awaitAt 3 with host := ⟨[.request 0x401], [], true⟩ } : State).reqWord = some 0x401 := ⟨rfl, rfl, rfl⟩
/-- R59: RW = 1 alone, with the default masks and with others. -/
theorem test_control_port :
    (pollAt 3).controlPort PinMasks.standard = ⟨0xE0, 0x40⟩ ∧ (pollAt 3).controlPort ⟨0x100, 0x02, 0x04⟩ = ⟨0x106, 0x02⟩ :=
  ⟨rfl, rfl⟩

/-! ### States that meet the invariant -/

theorem three_writes_guarded : Guarded oper.log := by
  intro n rs b h
  have h : ([.write false 0x30, .write false 0x30, .write false 0x30] : List Transfer)[n + 3]? = some (.write rs b) := h
  simp at h

/-- A running state, from the parts of the invariant. -/
theorem running_inv {s : State} {i : Instr} (hr : s.rom = .standard) (hg : Guarded s.log) (ho : s.op ≠ .idle)
    (hu : s.op ≠ .cmdu) (hc : s.current = some i) (hf : s.SubFits i) (he : (expectAt s.op s.upc).Holds s) : s.Inv :=
  ⟨hr, hg, fun h => absurd h ho, fun _ => ⟨hu, ⟨i, hc, hf⟩, he⟩⟩

/-- The idle block after INIT. -/
theorem oper_inv : oper.Inv :=
  ⟨rfl, three_writes_guarded, fun _ => ⟨rfl, rfl, rfl, ⟨rfl, fun _ => rfl⟩, .inr ⟨rfl, rfl, rfl, rfl, rfl, by decide⟩⟩,
    fun h => absurd rfl h⟩

/-- The idle block after reset. -/
theorem boot_inv : boot.Inv := by
  refine ⟨rfl, ?_, fun _ => ⟨rfl, rfl, rfl, ⟨rfl, fun h => by cases h⟩, .inl ⟨rfl, rfl, rfl, rfl⟩⟩, fun h => absurd rfl h⟩
  intro n rs b h
  cases h

/-- AWAIT in front of its RDBUS. -/
theorem sampling_inv : (pollAt 4).Inv :=
  running_inv (i := .rdbus) rfl three_writes_guarded (by decide) (by decide) (by decide) (.inl ⟨rfl, rfl, rfl, fun _ => rfl⟩)
    ⟨rfl, fun _ => rfl, rfl, rfl, by decide, fun _ => rfl, by decide, by decide, by decide⟩

/-- AWAIT inside its pulse, EN = 1, the tick outstanding. -/
def pulsing : State := { pollAt 3 with en := true, sub := .two, dlyPend := true }

theorem pulsing_inv : pulsing.Inv :=
  running_inv (i := .pulse) rfl three_writes_guarded (by decide) (by decide) (by decide)
    (.inr (.inr (.inl ⟨rfl, rfl, rfl, rfl⟩)))
    ⟨rfl, fun _ => rfl, rfl, rfl, by decide, fun _ => rfl, by decide, by decide, by decide⟩

/-- AWAIT at its END. -/
def ending : State := { awaitAt 8 with xfer := oper.xfer ++ [.read false 0x00] }

theorem ending_inv : ending.Inv := by
  refine running_inv (i := .endOp) rfl ?_ (by decide) (by decide) (by decide) (.inl ⟨rfl, rfl, rfl, fun _ => rfl⟩)
    ⟨rfl, fun _ => rfl, rfl, rfl, by decide, fun _ => rfl, by decide, by decide, fun _ => ⟨0x00, rfl, rfl⟩⟩
  intro n rs b h
  rcases n with _ | n <;> cases h

/-- INIT in front of PHASE A. -/
def entering : State :=
  { oper with op := .init, upc := 8, phase := .uninitialized, xfer := [.write false 0x30], dout := 0x30 }

theorem entering_inv : entering.Inv := by
  refine running_inv (i := .phase .bootstrappingA) rfl ?_ (by decide) (by decide) (by decide)
    (.inl ⟨rfl, rfl, rfl, fun _ => rfl⟩)
    ⟨rfl, fun _ => rfl, rfl, rfl, by decide, fun _ => rfl, by decide, by decide, by decide⟩
  intro n rs b h
  cases h

/-- AWAIT at its DIR out, and at its SET RW,0. -/
def turning (k : Nat) (rw : Bool) : State :=
  { awaitAt k with dir := .input, rw := rw, xfer := oper.xfer ++ [.read false 0x00] }

theorem turning_inv : (turning 7 false).Inv ∧ (turning 6 true).Inv := by
  constructor
  · refine running_inv (i := .dir .output) rfl ?_ (by decide) (by decide) (by decide) (.inl ⟨rfl, rfl, rfl, fun _ => rfl⟩)
      ⟨rfl, fun _ => rfl, rfl, rfl, by decide, fun _ => rfl, by decide, by decide, fun _ => ⟨0x00, rfl, rfl⟩⟩
    intro n rs b h
    rcases n with _ | n <;> cases h
  · refine running_inv (i := .setLine .rw false) rfl ?_ (by decide) (by decide) (by decide)
      (.inl ⟨rfl, rfl, rfl, fun _ => rfl⟩)
      ⟨rfl, fun _ => rfl, rfl, rfl, by decide, fun _ => rfl, by decide, by decide, fun _ => ⟨0x00, rfl, rfl⟩⟩
    intro n rs b h
    rcases n with _ | n <;> cases h

/-- INIT in front of its second delay. -/
def settling : State := { entering with upc := 9, phase := .bootstrappingA }

theorem settling_inv : settling.Inv := by
  refine running_inv (i := .delay 10) rfl ?_ (by decide) (by decide) (by decide) (.inl ⟨rfl, rfl, rfl, fun _ => rfl⟩)
    ⟨rfl, fun _ => rfl, rfl, rfl, by decide, fun _ => rfl, by decide, by decide, by decide⟩
  intro n rs b h
  cases h

/-! ### Witnesses for the hypotheses of the obligations -/

theorem offering_offered {s : State} (w : Word12) (h1 : s.resetIn = false) (h2 : s.latched = []) (h3 : s.op = .idle)
    (h4 : s.hostPend = false) : (offering w s).Offered w ⟨[], [], false⟩ := ⟨h1, h2, h3, h4, rfl⟩

theorem witness_EncodeOfDecode : decode (.req 0x548) = .ok (.data 0x48) := rfl

/-- One word for each clause: code 0, codes 6 and 15, INIT and AWAIT with an argument. -/
theorem witness_ReservedRequestWordsRefused :
    (offering 0x000 oper).Offered 0x000 ⟨[], [], false⟩ ∧ (BitVec.extractLsb' 8 4 (0x000 : Word12)).toNat = 0 ∧
    (offering 0x600 oper).Offered 0x600 ⟨[], [], false⟩ ∧ 6 ≤ (BitVec.extractLsb' 8 4 (0x600 : Word12)).toNat ∧
    (offering 0xF00 oper).Offered 0xF00 ⟨[], [], false⟩ ∧ 6 ≤ (BitVec.extractLsb' 8 4 (0xF00 : Word12)).toNat ∧
    (offering 0x101 oper).Offered 0x101 ⟨[], [], false⟩ ∧ BitVec.extractLsb' 0 8 (0x101 : Word12) ≠ 0 ∧
    (offering 0x380 oper).Offered 0x380 ⟨[], [], false⟩ ∧ BitVec.extractLsb' 0 8 (0x380 : Word12) ≠ 0 := by
  refine ⟨offering_offered _ rfl rfl rfl rfl, by decide, offering_offered _ rfl rfl rfl rfl, by decide,
    offering_offered _ rfl rfl rfl rfl, by decide, offering_offered _ rfl rfl rfl rfl, by decide,
    offering_offered _ rfl rfl rfl rfl, by decide⟩

theorem witness_RequestStepRunsDecoded :
    (offering 0x548 oper).Offered 0x548 ⟨[], [], false⟩ ∧ decode (.req 0x548) = .ok (.data 0x48) :=
  ⟨offering_offered _ rfl rfl rfl rfl, rfl⟩

/-- A list with a reserved word, and one that is built. -/
theorem witness_BuiltProgramsAreWellFormed :
    (∃ w ∈ ([0x100, 0xC00, 0x000] : List Word12), (decodeUw w).toOption = none) ∧
    build .input [0x301, 0x630, 0x901, 0x000] = .ok [.dir .output, .wri 0x30, .brbusy 1, .endOp] :=
  ⟨⟨0xC00, by decide, rfl⟩, test_build⟩

/-- The waiting and the moving clause. -/
theorem witness_EngineStepRunsDecoded :
    build (if OpCode.await = .init then .input else .output) (listing .await) = .ok (Rom.standard.program .await) ∧
    (pulsing.EngineTurn ∧ pulsing.op = .await ∧ pulsing.rom = .standard ∧ (listing .await)[pulsing.upc]? = some 0x500 ∧
      decode (.uw 0x500) = .ok .pulse ∧ pulsing.dlyPend = true ∧ pulsing.sub = .two) ∧
    ((pollAt 4).EngineTurn ∧ (pollAt 4).op = .await ∧ (pollAt 4).rom = .standard ∧
      (listing .await)[(pollAt 4).upc]? = some 0x800 ∧ decode (.uw 0x800) = .ok .rdbus ∧ (pollAt 4).dlyPend = false) :=
  ⟨rfl, ⟨⟨rfl, rfl, by decide⟩, rfl, rfl, rfl, rfl, rfl, rfl⟩, ⟨rfl, rfl, by decide⟩, rfl, rfl, rfl, rfl, rfl⟩

theorem witness_LcdStepRunsDecoded :
    ({ oper with latched := [(false, 0x01)] } : State).latched = (false, 0x01) :: [] ∧
    ({ oper with latched := [(false, 0x01)] } : State).resetIn = false ∧ decode (.bus 0x01) = .ok .lcdClear :=
  ⟨rfl, rfl, rfl⟩

/-- One word for each format. -/
theorem witness_PlacedTableWordIsRun :
    decodeTableWord 12 0x548 = some (.data 0x48) ∧ decodeTableWord 12 0xA1E = some (.delay 30) ∧
    decodeTableWord 8 0x38 = some .lcdFunc := ⟨rfl, rfl, rfl⟩

/-- Phase Uninitialized; a bootstrap phase with the pins configured (no run idles there, R187); phase Operational. -/
theorem witness_AdmittedRequestsAccepted :
    (boot.op = .idle ∧ boot.phase = .uninitialized) ∧
    (({ oper with phase := .bootstrappingA } : State).op = .idle ∧
      ({ oper with phase := .bootstrappingA } : State).phase ≠ .operational ∧
      ({ oper with phase := .bootstrappingA } : State).ctrlOe = true ∧
      ({ oper with phase := .bootstrappingA } : State).dir = .output) ∧
    (oper.op = .idle ∧ oper.phase = .operational) :=
  ⟨⟨rfl, rfl⟩, ⟨rfl, by decide, rfl, rfl⟩, ⟨rfl, rfl⟩⟩

theorem witness_RefusedRequestsChangeNothing :
    (oper.op = .idle ∧ oper.phase ≠ .uninitialized ∧ oper.phase = .operational) ∧
    (boot.op = .idle ∧ boot.phase ≠ .operational ∧ boot.ctrlOe = false ∧ boot.dir = .input) :=
  ⟨⟨rfl, by decide, rfl⟩, ⟨rfl, by decide, rfl, rfl⟩⟩

theorem witness_OffersHeldWhileRunning :
    ∃ t, (offering 0x401 (awaitAt 0)).op ≠ .idle ∧ (offering 0x401 (awaitAt 0)).resetIn = false ∧
      step (offering 0x401 (awaitAt 0)) = .next t ∧ t.op ≠ .idle := ⟨_, by decide, rfl, rfl, by decide⟩

/-- An offer that is accepted and one that is not. -/
theorem witness_ReqReadyMeansAccepted :
    (offering 0x300 oper).Offered 0x300 ⟨[], [], false⟩ ∧ (offering 0x300 oper).reqReady = true ∧
    (offering 0x300 boot).Offered 0x300 ⟨[], [], false⟩ ∧ (offering 0x300 boot).reqReady = false :=
  ⟨offering_offered _ rfl rfl rfl rfl, rfl, offering_offered _ rfl rfl rfl rfl, rfl⟩

theorem witness_UncheckedCommandNeverAdmittedIdle : boot.Inv ∧ boot.op = .idle ∧ oper.Inv ∧ oper.op = .idle :=
  ⟨boot_inv, rfl, oper_inv, rfl⟩

/-- Every sub-step, with and without the call outstanding. -/
theorem witness_PulseSubSteps :
    oper.sub = .zero ∧ ({ oper with sub := .one } : State).sub = .one ∧
    (pulsing.sub = .two ∧ pulsing.dlyPend = true) ∧
    (({ pulsing with dlyPend := false } : State).sub = .two ∧ ({ pulsing with dlyPend := false } : State).dlyPend = false) :=
  ⟨rfl, rfl, ⟨rfl, rfl⟩, ⟨rfl, rfl⟩⟩

/-- The write pulse of CMD at index 11, answered at once, and the read pulse of AWAIT at index 3, answered two steps late. -/
def writing : State := { oper with op := .cmd, upc := 11, answers := answersAfter [0] }
def polling : State := { pollAt 3 with answers := answersAfter [2] }

theorem witness_PulseLatchesOneTransfer :
    (writing.EngineTurn ∧ writing.current = some .pulse ∧ writing.sub = .zero ∧ writing.dlyPend = false ∧
      writing.ctrlOe = true ∧ writing.answers = answersAfter [0] ++ [] ∧ writing.rw = false ∧ writing.dir = .output) ∧
    (polling.EngineTurn ∧ polling.current = some .pulse ∧ polling.sub = .zero ∧ polling.dlyPend = false ∧
      polling.ctrlOe = true ∧ polling.answers = answersAfter [2] ++ [] ∧ polling.rw = true ∧ polling.dir = .input) :=
  ⟨⟨⟨rfl, rfl, by decide⟩, rfl, rfl, rfl, rfl, rfl, rfl, rfl⟩, ⟨⟨rfl, rfl, by decide⟩, rfl, rfl, rfl, rfl, rfl, rfl, rfl⟩⟩

theorem witness_PulseEqualsSetDelaySet : oper.sub = .zero ∧ oper.dlyPend = false := ⟨rfl, rfl⟩

theorem witness_WriteBusDrivesByte : oper.dir = .output := rfl

theorem witness_RdbusSamplesByte :
    ({ pollAt 4 with samples := [0x80] } : State).dir = .input ∧ ({ pollAt 4 with samples := [0x80] } : State).nextSample = 0x80 :=
  ⟨rfl, rfl⟩

theorem witness_BusAccessAgainstDirectionStops : (pollAt 4).dir = .input ∧ oper.dir = .output := ⟨rfl, rfl⟩

theorem witness_EndReturnsToIdle :
    (∃ t, exec .endOp ending = .next t) ∧ ending.Inv ∧ ending.op ≠ .idle ∧ ending.current = some .endOp :=
  ⟨⟨_, rfl⟩, ending_inv, by decide, by decide⟩

theorem witness_BrbusyTestsBitSeven :
    ({ pollAt 5 with status := 0x80 } : State).status.getLsbD 7 = true ∧
    ({ pollAt 5 with status := 0x7F } : State).status.getLsbD 7 = false := ⟨rfl, rfl⟩

theorem witness_LowStatusBitsIgnored :
    BitVec.getLsbD (0x7F : Byte) 7 = (pollAt 5).status.getLsbD 7 ∧ (pollAt 5).resetIn = false ∧
    ∃ t, step (pollAt 5) = .next t := ⟨rfl, rfl, _, rfl⟩

theorem witness_DirTurnsBus :
    (turning 7 false).Inv ∧ (turning 7 false).op ≠ .idle ∧ (turning 7 false).current = some (.dir .output) ∧
    (Rom.standard.program .init)[2]? = some (.dir .output) ∧ (Rom.standard.program .await)[7]? = some (.dir .output) :=
  ⟨turning_inv.1, by decide, by decide, rfl, rfl⟩

theorem witness_SetLineDrivesOneLine :
    (turning 6 true).Inv ∧ (turning 6 true).op ≠ .idle ∧ (turning 6 true).current = some (.setLine .rw false) :=
  ⟨turning_inv.2, by decide, by decide⟩

theorem witness_PhaseEntersPhase :
    entering.Inv ∧ entering.op ≠ .idle ∧ entering.current = some (.phase .bootstrappingA) ∧
    entering.phase.index + 1 = Phase.bootstrappingA.index := ⟨entering_inv, by decide, by decide, by decide⟩

theorem witness_DelaySubSteps :
    (settling.Inv ∧ settling.op ≠ .idle ∧ settling.current = some (.delay 10)) ∧
    (oper.en = false ∧ oper.sub = .zero) ∧
    (({ oper with sub := .one, dlyPend := true } : State).en = false ∧
      ({ oper with sub := .one, dlyPend := true } : State).sub = .one ∧
      ({ oper with sub := .one, dlyPend := true } : State).dlyPend = true) ∧
    (({ oper with sub := .one } : State).en = false ∧ ({ oper with sub := .one } : State).sub = .one ∧
      ({ oper with sub := .one } : State).dlyPend = false) :=
  ⟨⟨settling_inv, by decide, by decide⟩, ⟨rfl, rfl⟩, ⟨rfl, rfl, rfl⟩, ⟨rfl, rfl, rfl⟩⟩

theorem witness_EveryByteReachesController :
    ({ oper with latched := [(true, 0x48), (false, 0x7E)] } : State).resetIn = false ∧
    ({ oper with latched := [(true, 0x48), (false, 0x7E)] } : State).latched = (true, 0x48) :: [(false, 0x7E)] := ⟨rfl, rfl⟩

theorem witness_ResetWhateverRuns : ({ pulsing with resetIn := true } : State).resetIn = true := rfl

theorem witness_PinsFollowState : oper.dir = .output ∧ oper.ctrlOe = true ∧ boot.dir = .input ∧ boot.ctrlOe = false :=
  ⟨rfl, rfl, rfl, rfl⟩

/-- HOST about to pause, and HOST pausing. -/
def pausing (p : Bool) : State := { oper with host := ⟨[.pause 500], [], false⟩, hostPend := p }

theorem witness_HostPauseHoldsRequests :
    ((pausing false).resetIn = false ∧ (pausing false).latched = [] ∧ (pausing false).op = .idle ∧
      (pausing false).hostPend = false ∧ (pausing false).host.next = some (.pause 500, ⟨[], [], false⟩)) ∧
    ((pausing true).resetIn = false ∧ (pausing true).latched = [] ∧ (pausing true).op = .idle ∧
      (pausing true).hostPend = true) :=
  ⟨⟨rfl, rfl, rfl, rfl, rfl⟩, ⟨rfl, rfl, rfl, rfl⟩⟩

/-- The first and the last move of the iteration; a state at RUN's beginning, and one inside its loop. -/
theorem witness_RunRepeatsItsIteration :
    (runIteration Config.msg Config.tPace)[0]? = some (.request 0x548) ∧
    (runIteration Config.msg Config.tPace)[7]? = some (.pause 500) ∧
    (∃ s : State, s.host = runProgram Config.msg Config.tPace) ∧
    (∃ s : State, s.host = ⟨(runIteration Config.msg Config.tPace).drop 6, runIteration Config.msg Config.tPace, false⟩) :=
  ⟨rfl, rfl, ⟨{ boot with host := runDefault }, rfl⟩, ⟨{ oper with host := ⟨_, _, _⟩ }, rfl⟩⟩

theorem witness_StoreIsReadOnly : ∃ t, step (awaitAt 0) = .next t := ⟨_, rfl⟩

/-- An unchanged pair of enables, and the two steps that set them. -/
theorem witness_OutputsStayEnabled :
    ((awaitAt 0).resetIn = false ∧ (awaitAt 0).ctrlOe = true ∧ (awaitAt 0).pclkEn = 0b11 ∧ ∃ t, step (awaitAt 0) = .next t) ∧
    (∃ t, step { boot with op := .init, upc := 0 } = .next t ∧ t.pclkEn ≠ boot.pclkEn) ∧
    (∃ t, step { boot with op := .init, upc := 1 } = .next t ∧ t.ctrlOe ≠ boot.ctrlOe) :=
  ⟨⟨rfl, rfl, rfl, _, rfl⟩, ⟨_, rfl, by decide⟩, ⟨_, rfl, by decide⟩⟩

theorem witness_TraceOnlyGrows : (awaitAt 0).resetIn = false ∧ ∃ t, step (awaitAt 0) = .next t := ⟨rfl, _, rfl⟩

theorem witness_TransferLogIsViewOfTrace :
    (pollAt 4).resetIn = false ∧ (pollAt 4).Tracked (pollAt 4).view ∧ ∃ t, step (pollAt 4) = .next t :=
  ⟨rfl, rfl, _, rfl⟩

theorem witness_ResetIsTracked :
    ({ pulsing with resetIn := true } : State).resetIn = true ∧ ∃ t, step { pulsing with resetIn := true } = .next t :=
  ⟨rfl, _, rfl⟩

theorem witness_StepKeepsInvariant : (pollAt 4).Inv ∧ ∃ t, step (pollAt 4) = .next t := ⟨sampling_inv, _, rfl⟩

theorem witness_RunsNeverStop : pulsing.Inv := pulsing_inv

/-- AWAIT in front of its BRBUSY. -/
def testing : State := { pollAt 5 with status := 0x80, xfer := oper.xfer ++ [.read false 0x80] }

theorem testing_inv : testing.Inv := by
  refine running_inv (i := .brbusy 3) rfl ?_ (by decide) (by decide) (by decide) (.inl ⟨rfl, rfl, rfl, fun _ => rfl⟩)
    ⟨rfl, fun _ => rfl, rfl, rfl, by decide, fun _ => rfl, by decide, fun _ => rfl, by decide⟩
  intro n rs b h
  rcases n with _ | n <;> cases h

/-- DATA in front of its write pulse. -/
def storing : State :=
  { oper with op := .data, upc := 11, rs := true, dout := 0x48, arg := 0x48, xfer := oper.xfer ++ [.read false 0x00] }

theorem storing_inv : storing.Inv := by
  refine running_inv (i := .pulse) rfl ?_ (by decide) (by decide) (by decide) (.inl ⟨rfl, rfl, rfl, fun _ => rfl⟩)
    ⟨rfl, fun _ => rfl, rfl, rfl, by decide, fun _ => rfl, by decide, by decide, fun _ => ⟨0x00, rfl, rfl⟩⟩
  intro n rs b h
  rcases n with _ | n <;> cases h

/-- A read pulse, a write pulse, a test of the sample, and a sample. -/
theorem witness_PreconditionsAlwaysHold :
    (pulsing.Inv ∧ pulsing.op ≠ .idle ∧ pulsing.current = some .pulse) ∧
    (storing.Inv ∧ storing.op ≠ .idle ∧ storing.current = some .pulse) ∧
    (testing.Inv ∧ testing.op ≠ .idle ∧ testing.current = some (.brbusy 3)) ∧
    ((pollAt 4).Inv ∧ (pollAt 4).op ≠ .idle) :=
  ⟨⟨pulsing_inv, by decide, by decide⟩, ⟨storing_inv, by decide, by decide⟩, ⟨testing_inv, by decide, by decide⟩,
    ⟨sampling_inv, by decide⟩⟩

/-- R50: RS = 1, RW = 1 is no transfer. R131: no BRBUSY before an RDBUS. -/
theorem test_precondition :
    precondition { pollAt 3 with rs := true } .pulse = false ∧ precondition (pollAt 5) (.brbusy 3) = false := by decide

/-- DELAY with EN = 1, at each of its places, and PHASE O from Uninitialized. -/
theorem witness_BrokenPreconditionsArePerformed :
    (({ oper with en := true } : State).en = true ∧ ({ oper with en := true } : State).sub = .zero) ∧
    (({ oper with en := true, sub := .one, dlyPend := true } : State).en = true ∧
      ({ oper with en := true, sub := .one, dlyPend := true } : State).sub = .one ∧
      ({ oper with en := true, sub := .one, dlyPend := true } : State).dlyPend = true) ∧
    (({ oper with en := true, sub := .one } : State).en = true ∧ ({ oper with en := true, sub := .one } : State).sub = .one ∧
      ({ oper with en := true, sub := .one } : State).dlyPend = false) ∧
    boot.phase.index + 1 ≠ Phase.operational.index :=
  ⟨⟨rfl, rfl⟩, ⟨rfl, rfl, rfl⟩, ⟨rfl, rfl, rfl⟩, by decide⟩

/-- A read under way; RW = 1 with the pins not yet driven; the idle block after INIT. -/
theorem witness_BusNeverFought :
    ((pollAt 4).Inv ∧ (pollAt 4).rw = true ∧ (pollAt 4).ctrlOe = true) ∧
    (boot.Inv ∧ boot.rw = true ∧ boot.ctrlOe = false) ∧
    (oper.Inv ∧ oper.op = .idle ∧ oper.phase = .operational) :=
  ⟨⟨sampling_inv, rfl, rfl⟩, ⟨boot_inv, rfl, rfl⟩, ⟨oper_inv, rfl, rfl⟩⟩

theorem witness_PinsStableDuringPulse :
    pulsing.Inv ∧ pulsing.resetIn = false ∧ pulsing.ctrlOe = true ∧ pulsing.en = true ∧ ∃ t, step pulsing = .next t :=
  ⟨pulsing_inv, rfl, rfl, rfl, _, rfl⟩

theorem witness_PhaseNeverRegresses :
    entering.Inv ∧ entering.resetIn = false ∧ ∃ t, step entering = .next t ∧ t.phase = .bootstrappingA :=
  ⟨entering_inv, rfl, _, rfl, rfl⟩

theorem witness_NoSampleBeforeOperational :
    ∃ b t, (pollAt 4).Inv ∧ (pollAt 4).resetIn = false ∧ step (pollAt 4) = .next t ∧
      t.trace = (pollAt 4).trace ++ [.sample b] := ⟨_, _, sampling_inv, rfl, rfl, rfl⟩

theorem witness_WritesWaitForReady :
    ∃ t, runSteps 1 { State.reset with host := ⟨[.request 0x100], [], false⟩, samples := [0x00], answers := [true] } = .next t :=
  ⟨_, rfl⟩

theorem polls_busy_ready : PollsUntilReady [0x80, 0x00] := ⟨[0x80], 0x00, rfl, by decide, rfl⟩
theorem polls_ready : PollsUntilReady [0x7F] := ⟨[], 0x7F, rfl, by decide, rfl⟩

/-- HOST about to offer AWAIT, CMD or DATA, with the samples of the window and DELAY's answers to come. -/
def about (w : Word12) (bs : List Byte) (ms : List Nat) : State :=
  { offering w oper with samples := bs, answers := answersAfter ms }

/-- The shortest window, answered at once, and one of two poll cycles, the second answered a step late. -/
theorem witness_AwaitPollsUntilReady :
    ((about 0x300 [0x7F] [0]).Offered 0x300 ⟨[], [], false⟩ ∧ (about 0x300 [0x7F] [0]).rom = .standard ∧
      (about 0x300 [0x7F] [0]).phase = .operational ∧ (about 0x300 [0x7F] [0]).dlyPend = false ∧ PollsUntilReady [0x7F] ∧
      [0].length = [0x7F].length ∧ (about 0x300 [0x7F] [0]).samples = [0x7F] ++ [] ∧
      (about 0x300 [0x7F] [0]).answers = answersAfter [0] ++ []) ∧
    ((about 0x300 [0x80, 0x00] [0, 1]).Offered 0x300 ⟨[], [], false⟩ ∧ PollsUntilReady [0x80, 0x00] ∧
      [0, 1].length = [0x80, 0x00].length ∧ (about 0x300 [0x80, 0x00] [0, 1]).samples = [0x80, 0x00] ++ [] ∧
      (about 0x300 [0x80, 0x00] [0, 1]).answers = answersAfter [0, 1] ++ []) :=
  ⟨⟨⟨rfl, rfl, rfl, rfl, rfl⟩, rfl, rfl, rfl, polls_ready, rfl, rfl, rfl⟩,
    ⟨⟨rfl, rfl, rfl, rfl, rfl⟩, polls_busy_ready, rfl, rfl, rfl⟩⟩

/-- CMD 0xFF and DATA 0x00. -/
theorem witness_PolledWriteCompletes :
    ((about 0x4FF [0x7F] [0, 3]).Offered ((if false then 0x500 else 0x400) ||| (0xFF : Byte).zeroExtend 12) ⟨[], [], false⟩ ∧
      (about 0x4FF [0x7F] [0, 3]).rom = .standard ∧ (about 0x4FF [0x7F] [0, 3]).phase = .operational ∧
      (about 0x4FF [0x7F] [0, 3]).ctrlOe = true ∧ (about 0x4FF [0x7F] [0, 3]).dlyPend = false ∧ PollsUntilReady [0x7F] ∧
      [0, 3].length = [0x7F].length + 1 ∧ (about 0x4FF [0x7F] [0, 3]).samples = [0x7F] ++ [] ∧
      (about 0x4FF [0x7F] [0, 3]).answers = answersAfter [0, 3] ++ []) ∧
    (about 0x500 [0x7F] [0, 0]).Offered ((if true then 0x500 else 0x400) ||| (0x00 : Byte).zeroExtend 12) ⟨[], [], false⟩ :=
  ⟨⟨⟨rfl, rfl, rfl, rfl, rfl⟩, rfl, rfl, rfl, rfl, polls_ready, rfl, rfl, rfl⟩, ⟨rfl, rfl, rfl, rfl, rfl⟩⟩

/-- In a bootstrap phase with the pins configured. -/
def unchecked : State := { offering 0x2FF oper with phase := .bootstrappingC, answers := answersAfter [1] }

theorem witness_UncheckedWriteCompletes :
    unchecked.Offered (0x200 ||| (0xFF : Byte).zeroExtend 12) ⟨[], [], false⟩ ∧ unchecked.rom = .standard ∧
    unchecked.phase ≠ .operational ∧ unchecked.ctrlOe = true ∧ unchecked.dir = .output ∧ unchecked.dlyPend = false ∧
    unchecked.answers = answersAfter [1] ++ [] :=
  ⟨⟨rfl, rfl, rfl, rfl, rfl⟩, rfl, by decide, rfl, rfl, rfl, rfl⟩

/-- When DELAY answers each of INIT's fourteen calls. -/
def bringUpAnswers : List Nat := [2, 0, 0, 1, 0, 0, 0, 0, 0, 0, 0, 0, 0, 3]

/-- Program P1 of 95_test_vectors.md, with a ready first sample in each window. -/
def bringUp : State :=
  { offering 0x100 boot with samples := [0x00, 0x00, 0x00, 0x00], answers := answersAfter bringUpAnswers }

theorem witness_InitBringsUpController :
    bringUp.Offered 0x100 ⟨[], [], false⟩ ∧ bringUp.rom = .standard ∧ bringUp.phase = .uninitialized ∧ bringUp.dlyPend = false ∧
    PollsUntilReady [0x00] ∧ bringUp.samples = [0x00] ++ [0x00] ++ [0x00] ++ [0x00] ++ [] ∧
    bringUpAnswers.length = 10 + (1 + 1 + 1 + 1) ∧ bringUp.answers = answersAfter bringUpAnswers ++ [] :=
  ⟨⟨rfl, rfl, rfl, rfl, rfl⟩, rfl, rfl, rfl, ⟨[], 0x00, rfl, by decide, rfl⟩, rfl, rfl, rfl⟩

/-- T-HANG-1 and T-HANG-3: with a busy sample to come. -/
def hanging (s : State) : State := { s with samples := [0x80] }

/-- Each place of AWAIT's loop, and the first and the last window of INIT. -/
theorem witness_NeverReadyHangs :
    (hanging (pollAt 3)).InPollLoop ∧ (hanging (pollAt 4)).InPollLoop ∧
    (hanging { pollAt 5 with status := 0x80 }).InPollLoop ∧
    (hanging { pollAt 25 with op := .init }).InPollLoop ∧ (hanging { pollAt 62 with op := .init }).InPollLoop ∧
    (∀ b ∈ (hanging (pollAt 3)).samples, isBusy b = true) ∧ 1 ≤ (hanging (pollAt 3)).samples.length :=
  ⟨⟨rfl, ⟨3, by decide, .inl rfl⟩, rfl, rfl, rfl, rfl, rfl, rfl⟩,
    ⟨rfl, ⟨3, by decide, .inr (.inl ⟨rfl, rfl⟩)⟩, rfl, rfl, rfl, rfl, rfl, rfl⟩,
    ⟨rfl, ⟨3, by decide, .inr (.inr ⟨rfl, rfl, rfl⟩)⟩, rfl, rfl, rfl, rfl, rfl, rfl⟩,
    ⟨rfl, ⟨25, by decide, .inl rfl⟩, rfl, rfl, rfl, rfl, rfl, rfl⟩,
    ⟨rfl, ⟨61, by decide, .inr (.inl ⟨rfl, rfl⟩)⟩, rfl, rfl, rfl, rfl, rfl, rfl⟩, by decide, by decide⟩

/-- T-HANG-2. -/
def waiting : State := { pulsing with answers := [false] }

theorem witness_UnansweredDelayWaits :
    waiting.EngineTurn ∧ waiting.current = some .pulse ∧ waiting.waitsAt .pulse = true ∧
    (∀ a ∈ waiting.answers, a = false) ∧ 1 ≤ waiting.answers.length :=
  ⟨⟨rfl, rfl, by decide⟩, by decide, rfl, by decide, by decide⟩

end Sys2Proof.Tests
end

/-! ## The scope rules R12, R13, R14: trace, transfer log and outcomes -/

namespace Sys2Proof.Machine

/-! ### The view of the state after each operation -/

theorem PinView.ofTrace_concat (v : PinView) (es : List Event) (e : Event) :
    v.ofTrace (es ++ [e]) = (v.ofTrace es).see e := by
  simp [PinView.ofTrace]

theorem State.log_driveEn_fall (s : State) :
    (s.driveEn false).log = if s.pulseWrite then s.log ++ [.write s.rs s.dout] else s.log := by
  cases hp : s.pulseWrite <;> simp [State.log, hp]

theorem State.view_driveEn (s : State) (v : Bool) : (s.driveEn v).view = s.view.see (.line .en v) := by
  cases v with
  | true => rfl
  | false => simp only [State.view, PinView.see, State.log_driveEn_fall]; rfl

theorem State.view_driveLine (s : State) (l : Line) (v : Bool) :
    (s.driveLine l v).view = s.view.see (.line l v) := by
  cases l with
  | rs => rfl
  | rw => rfl
  | en => exact s.view_driveEn v

/-- The read enters the log at its end because no write is waiting to be taken. -/
theorem State.view_sampleBus {s : State} (hl : s.latched = []) :
    s.sampleBus.view = s.view.see (.sample s.nextSample) := by
  simp [State.view, PinView.see, State.log, hl]

theorem State.view_offer (s : State) (o : OpCode) (a : Byte) : (s.offer o a).view = s.view := by
  obtain ⟨-, h⟩ | ⟨-, r, -, h⟩ | ⟨-, -, h⟩ := s.offer_cases o a <;> rw [h] <;> rfl

theorem State.trace_offer (s : State) (o : OpCode) (a : Byte) : (s.offer o a).trace = s.trace := by
  obtain ⟨-, h⟩ | ⟨-, r, -, h⟩ | ⟨-, -, h⟩ := s.offer_cases o a <;> rw [h] <;> rfl

/-- Taking the oldest latched transfer moves it inside the log from the waiting part to XFER (log 10). -/
theorem State.view_take {s : State} {rs : Bool} {b : Byte} {rest : List (Bool × Byte)}
    (hl : s.latched = (rs, b) :: rest) :
    (({ s with latched := rest } : State).receive rs b).view = s.view := by
  simp [State.view, State.log, hl]

/-! ### Every step is told by at most one event -/

/-- From `s` to `t` the trace gained nothing and the view is the same, or it gained one event, and the view is what that
event tells. -/
inductive State.ToldBy (s t : State) : Prop where
  | silent (trace : t.trace = s.trace) (view : t.view = s.view)
  | event (e : Event) (trace : t.trace = s.trace ++ [e]) (view : t.view = s.view.see e)

theorem execPulse_toldBy {s t : State} (h : execPulse s = .next t) : s.ToldBy t := by
  unfold execPulse at h
  split at h
  · cases h; exact .event _ rfl (s.view_driveEn true)
  · cases h; exact .event _ rfl rfl
  · split at h <;> cases h
    · exact .silent rfl rfl
    · exact .event _ rfl (s.view_driveEn false)

theorem execDelay_toldBy {n : Byte} {s t : State} (h : execDelay n s = .next t) : s.ToldBy t := by
  unfold execDelay at h
  split at h
  · cases h; exact .event _ rfl rfl
  · split at h <;> cases h <;> exact .silent rfl rfl
  · cases h

/-- ENGINE runs a micro-operation only where no transfer is latched, so a read is logged behind every write before it. -/
theorem exec_toldBy {i : Instr} {s t : State} (hi : i.format = .uw) (hl : s.latched = [])
    (h : exec i s = .next t) : s.ToldBy t := by
  cases i with
  | endOp => cases h; exact .silent rfl rfl
  | clken => cases h; exact .event _ rfl rfl
  | cfgctl => cases h; exact .event _ rfl rfl
  | dir d => cases h; exact .event _ rfl rfl
  | setLine l v => cases h; exact .event (.line l v) (by simp) (s.view_driveLine l v)
  | pulse => exact execPulse_toldBy h
  | wri b =>
    simp only [exec, execWri] at h
    split at h <;> cases h
    exact .event _ rfl rfl
  | wra =>
    simp only [exec, execWra] at h
    split at h <;> cases h
    exact .event _ rfl rfl
  | rdbus =>
    simp only [exec, execRdbus] at h
    split at h <;> cases h
    exact .event _ rfl (State.view_sampleBus hl)
  | brbusy b => cases h; exact .silent rfl rfl
  | delay n => exact execDelay_toldBy h
  | phase p => cases h; exact .event _ rfl rfl
  | init | cmdu _ | await | cmd _ | data _ | lcdBoot8 | lcdFunc | lcdEntry | lcdClear | lcdDispon => cases hi

theorem hostMove_toldBy {m : HostMove} {s t : State} (h : hostMove m s = .next t) : s.ToldBy t := by
  obtain ⟨n, -, he⟩ | ⟨w, -, he⟩ | ⟨w, i, o, a, -, -, -, he⟩ := hostMove_cases m s <;> cases he.symm.trans h
  · exact .event _ rfl rfl
  · exact .silent rfl rfl
  · exact .silent (s.trace_offer o a) (s.view_offer o a)

theorem step_toldBy {s t : State} (hr : s.resetIn = false) (h : step s = .next t) : s.ToldBy t := by
  cases step_cases h with
  | reset hreset => cases hr.symm.trans hreset
  | lcd _ rs b rest hl eq => exact eq ▸ .silent rfl (State.view_take hl)
  | delay _ _ _ i _ _ eq => exact eq ▸ .silent rfl rfl
  | engine _ hl _ i hi _ eq => exact exec_toldBy (State.current_eq.mp hi).2 hl eq
  | hostDelay _ _ _ _ eq => exact eq ▸ .silent rfl rfl
  | nothing _ _ _ _ _ eq => exact eq ▸ .silent rfl rfl
  | host _ _ _ _ m p _ eq =>
    cases hostMove_toldBy eq with
    | silent trace view => exact .silent trace view
    | event e trace view => exact .event e trace view

theorem State.ToldBy.tracked {v : PinView} {s t : State} (h : s.ToldBy t) (hs : s.Tracked v) : t.Tracked v := by
  unfold State.Tracked at *
  cases h with
  | silent trace view => rw [trace, view, hs]
  | event e trace view => rw [trace, view, PinView.ofTrace_concat, hs]

/-- Settles O44: each step is told by at most one event, and that event tells the observer exactly what changed. -/
theorem transferLogIsViewOfTrace : Obligations.TransferLogIsViewOfTrace :=
  fun _ _ _ hr hs h => (step_toldBy hr h).tracked hs

/-- Settles O43, from the same account of a step. -/
theorem traceOnlyGrows : Obligations.TraceOnlyGrows := by
  intro s t hr h
  cases step_toldBy hr h with
  | silent trace _ => exact .inl trace
  | event e trace _ => exact .inr ⟨e, trace⟩

/-! ### The bus direction in front of each micro-operation -/

theorem accessOk_of_accessesOk {d now : BusDir} {p rest : List Instr} (h : MicroProgram.accessesOk d p now rest = true)
    {k : Nat} {i : Instr} (hk : rest[k]? = some i) :
    MicroProgram.accessOk d p (MicroProgram.dirAt now rest k) i = true := by
  induction rest generalizing now k with
  | nil => cases hk
  | cons j rest ih =>
    simp only [MicroProgram.accessesOk, Bool.and_eq_true] at h
    obtain ⟨hj, hrest⟩ := h
    cases k with
    | zero => cases hk; exact hj
    | succ k => exact ih hrest hk

theorem Expect.entry_dir {o : OpCode} : (Expect.entry o).dir = o.entryDir := by
  cases o <;> rfl

theorem Expect.after_dir (e : Expect) (i : Instr) : (e.after i).dir = MicroProgram.dirAfter e.dir i := by
  cases i with
  | setLine l v => cases l <;> rfl
  | _ => rfl

/-- The direction the invariant expects is the one `build` computed when it checked the micro-program. -/
theorem expectAt_dir (o : OpCode) (k : Nat) :
    (expectAt o k).dir = MicroProgram.dirAt o.entryDir (Rom.standard.program o) k := by
  rw [← Expect.entry_dir]
  exact (List.foldl_hom Expect.dir fun e i => (e.after_dir i).symm).symm

theorem built_directionOk (o : OpCode) : MicroProgram.directionOk o.entryDir (built o) = true := by
  unfold built
  split
  · rename_i p hp
    obtain ⟨-, -, -, hdir⟩ := build_ok hp
    exact hdir
  · rfl

theorem standard_directionOk (o : OpCode) :
    MicroProgram.directionOk o.entryDir (Rom.standard.program o) = true := by
  cases o with
  | idle => rfl
  | init => exact built_directionOk .init
  | cmdu => exact built_directionOk .cmdu
  | await => exact built_directionOk .await
  | cmd => exact built_directionOk .cmd
  | data => exact built_directionOk .data

/-- Under the invariant the bus has the direction the micro-operation at (OP, UPC) needs (U1). -/
theorem State.RunningOk.accessOk {s : State} (h : s.RunningOk) (hrom : s.rom = .standard) {i : Instr}
    (hi : s.current = some i) :
    MicroProgram.accessOk s.op.entryDir (Rom.standard.program s.op) s.dir i = true := by
  rw [h.expected.dir, expectAt_dir]
  exact accessOk_of_accessesOk (standard_directionOk s.op) (hrom ▸ (State.current_eq.mp hi).1)

theorem State.SubFits.delay_sub_ne_two {s : State} {n : Byte} (h : s.SubFits (.delay n)) : s.sub ≠ .two := by
  rcases h with ⟨hs, -⟩ | ⟨hs, -⟩ | ⟨-, hp, -⟩ | ⟨hs, -⟩
  · simp [hs]
  · simp [hs]
  · cases hp
  · simp [hs]

/-! ### No step stops -/

/-- A bus access against the direction, and a third sub-step of DELAY, are the only stops of `exec`. -/
theorem exec_next {d : BusDir} {p : List Instr} {i : Instr} {s : State}
    (hdir : MicroProgram.accessOk d p s.dir i = true) (hsub : s.SubFits i) : ∃ t, exec i s = .next t := by
  cases i
  case wri b => exact ⟨_, exec_wri (eq_of_beq hdir)⟩
  case wra => exact ⟨_, exec_wra (eq_of_beq hdir)⟩
  case rdbus => exact ⟨_, exec_rdbus (eq_of_beq hdir)⟩
  case pulse =>
    simp only [exec, execPulse]
    split
    · exact ⟨_, rfl⟩
    · exact ⟨_, rfl⟩
    · split <;> exact ⟨_, rfl⟩
  case delay n =>
    simp only [exec, execDelay]
    split
    · exact ⟨_, rfl⟩
    · split <;> exact ⟨_, rfl⟩
    · exact absurd ‹_› hsub.delay_sub_ne_two
  all_goals exact ⟨_, rfl⟩

theorem hostStep_next (s : State) : ∃ t, hostStep s = .next t := by
  unfold hostStep
  split
  · exact ⟨_, rfl⟩
  · split
    · exact ⟨_, rfl⟩
    · rename_i m h _
      obtain ⟨n, -, he⟩ | ⟨w, -, he⟩ | ⟨w, i, o, a, -, -, -, he⟩ := hostMove_cases m { s with host := h } <;>
        exact ⟨_, he⟩

theorem State.RunningOk.engineStep_next {s : State} (h : s.RunningOk) (hrom : s.rom = .standard) :
    ∃ t, engineStep s = .next t := by
  obtain ⟨i, hi, hsub⟩ := h.position
  simp only [engineStep, hi]
  split
  · exact ⟨_, rfl⟩
  · exact exec_next (h.accessOk hrom hi) hsub

/-- Settles O48: RESET, LCD and HOST never stop, and ENGINE's micro-operation finds the direction it needs because `build`
checked it (U1). -/
theorem runsNeverStop : Obligations.RunsNeverStop := by
  intro s h
  unfold step agentStep
  split
  · exact ⟨_, rfl⟩
  · split
    · exact ⟨_, lcdStep_eq _ _ _⟩
    · split
      · exact hostStep_next s
      · rename_i hop
        exact (h.running hop).engineStep_next h.rom

end Sys2Proof.Machine

/-! ## The state rules R20 to R36: pins, reset, status, requests and the invariant -/

namespace Sys2Proof.Machine

/-! ### What the micro-programs guarantee at each position -/

/-- What holds in front of the PULSE that opens a poll cycle, at the first pass and at every later one. -/
def Expect.polling : Expect := ⟨.operational, true, true, .input, some false, true, 3, .nothing⟩

/-- What a micro-operation asks of the expectation in front of it, for the invariant to hold behind it. -/
def Expect.allows (o : OpCode) (e : Expect) : Instr → Bool
  | .setLine .en _ => false
  | .pulse => e.rw || decide (e.writes < 3) || e.heard == .ready
  | .rdbus => e.rs == some false && e.writes == 3
  | .brbusy t => e == { Expect.polling with heard := .sampled } && (pollStarts o).contains t.toNat
  | .phase p => o == .init && e.phase.index + 1 == p.index
  | .endOp => e.phase == .operational && e.clocked && e.ctrlOe && e.dir == .output && !e.rw && e.writes == 3
  | _ => true

/-- `allows` along the rest of a micro-program. -/
def Expect.allowsAll (o : OpCode) : Expect → List Instr → Bool
  | _, [] => true
  | e, i :: rest => e.allows o i && allowsAll o (e.after i) rest

theorem standard_allowsAll {o : OpCode} (ho : o ≠ .cmdu) :
    (Expect.entry o).allowsAll o (Rom.standard.program o) = true := by
  cases o with
  | cmdu => exact absurd rfl ho
  | _ => rfl

theorem Expect.allows_of_allowsAll {o : OpCode} {e : Expect} {p : List Instr} (h : e.allowsAll o p = true)
    {k : Nat} {i : Instr} (hk : p[k]? = some i) : ((p.take k).foldl Expect.after e).allows o i = true := by
  induction p generalizing e k with
  | nil => cases hk
  | cons j rest ih =>
    simp only [Expect.allowsAll, Bool.and_eq_true] at h
    obtain ⟨hj, hrest⟩ := h
    cases k with
    | zero => cases hk; exact hj
    | succ k => exact ih hrest hk

theorem expectAt_allows {o : OpCode} (ho : o ≠ .cmdu) {k : Nat} {i : Instr}
    (hk : (Rom.standard.program o)[k]? = some i) : (expectAt o k).allows o i = true :=
  Expect.allows_of_allowsAll (standard_allowsAll ho) hk

theorem expectAt_succ {o : OpCode} {k : Nat} {i : Instr} (hk : (Rom.standard.program o)[k]? = some i) :
    expectAt o (k + 1) = (expectAt o k).after i := by
  simp [expectAt, List.take_add_one, hk]

/-- A poll cycle opens with a PULSE, and at each one the same is expected. -/
theorem pollStart_expected {o : OpCode} {k : Nat} (hk : k ∈ pollStarts o) :
    (Rom.standard.program o)[k]? = some .pulse ∧ expectAt o k = Expect.polling := by
  cases o with
  | idle | cmdu => cases hk
  | init =>
    simp only [pollStarts, List.mem_cons, List.not_mem_nil, or_false] at hk
    obtain rfl | rfl | rfl | rfl := hk <;> exact ⟨rfl, rfl⟩
  | await | cmd | data => cases List.mem_singleton.1 hk; exact ⟨rfl, rfl⟩

/-! ### Where micro-operations stand in the listings -/

theorem standard_getLast {o : OpCode} (ho : o ≠ .idle) : (Rom.standard.program o).getLast? = some .endOp := by
  cases o with
  | idle => exact absurd rfl ho
  | _ => rfl

theorem standard_onlyMicro (o : OpCode) : MicroProgram.onlyMicro (Rom.standard.program o) = true := by
  cases o <;> rfl

/-- Behind a micro-operation other than END stands another, because END is the last (R130). -/
theorem standard_exists_next {o : OpCode} {k : Nat} {i : Instr} (hk : (Rom.standard.program o)[k]? = some i)
    (hi : i ≠ .endOp) : ∃ j, (Rom.standard.program o)[k + 1]? = some j := by
  obtain ⟨hlt, -⟩ := List.getElem?_eq_some_iff.1 hk
  have ho : o ≠ .idle := by rintro rfl; cases hk
  have hne : k ≠ (Rom.standard.program o).length - 1 := by
    rintro rfl
    rw [← List.getLast?_eq_getElem?, standard_getLast ho] at hk
    exact hi (Option.some.inj hk).symm
  exact ⟨_, List.getElem?_eq_getElem (by omega)⟩

theorem standard_exists_first {o : OpCode} (ho : o ≠ .idle) : ∃ i, (Rom.standard.program o)[0]? = some i := by
  cases o with
  | idle => exact absurd rfl ho
  | _ => exact ⟨_, rfl⟩

/-- The micro-operation at a place of the store is the current one: only micro-operations stand there. -/
theorem State.current_of_standard {s : State} (hrom : s.rom = .standard) {i : Instr}
    (hk : (Rom.standard.program s.op)[s.upc]? = some i) : s.current = some i := by
  have hall := standard_onlyMicro s.op
  simp only [MicroProgram.onlyMicro, List.all_eq_true, beq_iff_eq] at hall
  exact State.current_eq.2 ⟨hrom ▸ hk, hall i (List.mem_of_getElem? hk)⟩

/-- The micro-operation a run has come to is one the invariant allows there. -/
theorem State.RunningOk.allows {s : State} (h : s.RunningOk) (hrom : s.rom = .standard) {i : Instr}
    (hi : s.current = some i) : (expectAt s.op s.upc).allows s.op i = true :=
  expectAt_allows h.notCmdu (hrom ▸ (State.current_eq.1 hi).1)

theorem State.RunningOk.subFits {s : State} (h : s.RunningOk) {i : Instr} (hi : s.current = some i) : s.SubFits i := by
  obtain ⟨j, hj, hf⟩ := h.position
  cases hi.symm.trans hj
  exact hf

/-! ### Which micro-operation writes what -/

/-- PHASE, CTRL_OE, PCLK_EN and OP each have one micro-operation that writes them (R27, R28, R130, R133). -/
structure ControlFrame (i : Instr) (s t : State) : Prop where
  phase : t.phase = s.phase ∨ i = .phase t.phase := by exact .inl rfl
  ctrlOe : t.ctrlOe = s.ctrlOe ∨ (i = .cfgctl ∧ t.ctrlOe = true) := by exact .inl rfl
  pclkEn : t.pclkEn = s.pclkEn ∨ (i = .clken ∧ t.pclkEn = 0b11) := by exact .inl rfl
  op : t.op = s.op ∨ i = .endOp := by exact .inl rfl

theorem exec_controlFrame {i : Instr} {s t : State} (hi : i.format = .uw) (h : exec i s = .next t) :
    ControlFrame i s t := by
  cases i with
  | endOp => cases h; exact { op := .inr rfl }
  | clken => cases h; exact { pclkEn := .inr ⟨rfl, rfl⟩ }
  | cfgctl => cases h; exact { ctrlOe := .inr ⟨rfl, rfl⟩ }
  | phase p => cases h; exact { phase := .inr rfl }
  | dir d => cases h; exact {}
  | setLine l v => cases l <;> cases h <;> exact {}
  | brbusy b => cases h; exact {}
  | pulse =>
    simp only [exec, execPulse] at h
    split at h
    · cases h; exact {}
    · cases h; exact {}
    · split at h <;> cases h <;> exact {}
  | wri b =>
    simp only [exec, execWri] at h
    split at h <;> cases h
    exact {}
  | wra =>
    simp only [exec, execWra] at h
    split at h <;> cases h
    exact {}
  | rdbus =>
    simp only [exec, execRdbus] at h
    split at h <;> cases h
    exact {}
  | delay n =>
    simp only [exec, execDelay] at h
    split at h
    · cases h; exact {}
    · split at h <;> cases h <;> exact {}
    · cases h
  | init | cmdu _ | await | cmd _ | data _ | lcdBoot8 | lcdFunc | lcdEntry | lcdClear | lcdDispon => cases hi

/-- Offering a request touches OP, ARG, UPC, SUB and the reasons reported, and no other part of the state. -/
theorem State.offer_frame (s : State) (o : OpCode) (a : Byte) :
    s.offer o a = { s with
      op := (s.offer o a).op, arg := (s.offer o a).arg, upc := (s.offer o a).upc, sub := (s.offer o a).sub,
      refusals := (s.offer o a).refusals } := by
  obtain ⟨-, h⟩ | ⟨-, r, -, h⟩ | ⟨-, -, h⟩ := s.offer_cases o a <;> rw [h] <;> rfl

/-- A move of HOST writes none of PHASE, CTRL_OE and PCLK_EN. -/
theorem hostMove_control {m : HostMove} {s t : State} (h : hostMove m s = .next t) :
    t.phase = s.phase ∧ t.ctrlOe = s.ctrlOe ∧ t.pclkEn = s.pclkEn := by
  obtain ⟨n, -, he⟩ | ⟨w, -, he⟩ | ⟨w, i, o, a, -, -, -, he⟩ := hostMove_cases m s <;> cases he.symm.trans h
  · exact ⟨rfl, rfl, rfl⟩
  · exact ⟨rfl, rfl, rfl⟩
  · rw [s.offer_frame o a]
    exact ⟨rfl, rfl, rfl⟩

/-- What a step without RESET writes of PHASE, CTRL_OE and PCLK_EN: only ENGINE writes them, by the micro-operation that
stands at (OP, UPC). -/
structure StepControl (s t : State) : Prop where
  phase : t.phase = s.phase ∨ (s.op ≠ .idle ∧ s.current = some (.phase t.phase)) := by exact .inl rfl
  ctrlOe : t.ctrlOe = s.ctrlOe ∨ (s.current = some .cfgctl ∧ t.ctrlOe = true) := by exact .inl rfl
  pclkEn : t.pclkEn = s.pclkEn ∨ (s.current = some .clken ∧ t.pclkEn = 0b11) := by exact .inl rfl

theorem step_control {s t : State} (hr : s.resetIn = false) (h : step s = .next t) : StepControl s t := by
  cases step_cases h with
  | reset hreset => cases hr.symm.trans hreset
  | lcd _ rs b rest _ eq => subst eq; exact {}
  | delay _ _ _ i _ _ eq => subst eq; exact {}
  | engine _ _ ho i hi _ eq =>
    obtain ⟨hphase, hoe, hclk, -⟩ := exec_controlFrame (State.current_eq.1 hi).2 eq
    exact ⟨hphase.elim .inl fun e => .inr ⟨ho, e ▸ hi⟩, hoe.elim .inl fun e => .inr ⟨e.1 ▸ hi, e.2⟩,
      hclk.elim .inl fun e => .inr ⟨e.1 ▸ hi, e.2⟩⟩
  | hostDelay _ _ _ _ eq => subst eq; exact {}
  | nothing _ _ _ _ _ eq => subst eq; exact {}
  | host _ _ _ _ m p _ eq =>
    obtain ⟨hphase, hoe, hclk⟩ := hostMove_control eq
    exact ⟨.inl hphase, .inl hoe, .inl hclk⟩

/-! ### What the invariant reads -/

/-- Everything the invariant reads is the same in both states. -/
structure State.Alike (s t : State) : Prop where
  rom : t.rom = s.rom := by rfl
  phase : t.phase = s.phase := by rfl
  pclkEn : t.pclkEn = s.pclkEn := by rfl
  ctrlOe : t.ctrlOe = s.ctrlOe := by rfl
  rs : t.rs = s.rs := by rfl
  rw : t.rw = s.rw := by rfl
  en : t.en = s.en := by rfl
  dir : t.dir = s.dir := by rfl
  status : t.status = s.status := by rfl
  op : t.op = s.op := by rfl
  upc : t.upc = s.upc := by rfl
  sub : t.sub = s.sub := by rfl
  dlyPend : t.dlyPend = s.dlyPend := by rfl
  pulseWrite : t.pulseWrite = s.pulseWrite := by rfl
  log : t.log = s.log := by rfl

theorem State.Alike.quiet {s t : State} (h : s.Alike t) (hs : s.Quiet) : t.Quiet := by
  unfold State.Quiet
  rw [h.pulseWrite, h.ctrlOe, h.en]
  exact hs

theorem Expect.Holds.congr {e : Expect} {s t : State} (hs : e.Holds s) (h : s.Alike t) : e.Holds t where
  phase := h.phase ▸ hs.phase
  clocked := h.pclkEn ▸ hs.clocked
  ctrlOe := h.ctrlOe ▸ hs.ctrlOe
  dir := h.dir ▸ hs.dir
  rs := h.rs ▸ hs.rs
  rw := h.rw ▸ hs.rw
  writes := h.log ▸ hs.writes
  sampled := h.log ▸ h.status ▸ hs.sampled
  ready := h.log ▸ hs.ready

theorem State.Alike.subFits {s t : State} {i : Instr} (h : s.Alike t) (hs : s.SubFits i) : t.SubFits i := by
  have hw : t.writeSelected = s.writeSelected := by simp only [State.writeSelected, h.rw, h.dir, h.ctrlOe]
  unfold State.SubFits State.Quiet at *
  rw [h.sub, h.dlyPend, h.pulseWrite, h.ctrlOe, h.en, hw]
  exact hs

theorem State.Alike.idleOk {s t : State} (h : s.Alike t) (hs : s.IdleOk) : t.IdleOk where
  upc := h.upc ▸ hs.upc
  sub := h.sub ▸ hs.sub
  dlyPend := h.dlyPend ▸ hs.dlyPend
  quiet := h.quiet hs.quiet
  place := by
    rw [h.phase, h.pclkEn, h.ctrlOe, h.dir, h.rw, h.log]
    exact hs.place

theorem State.Alike.runningOk {s t : State} (h : s.Alike t) (hs : s.RunningOk) : t.RunningOk where
  notCmdu := h.op ▸ hs.notCmdu
  position := by
    obtain ⟨i, hi, hf⟩ := hs.position
    exact ⟨i, (State.current_congr h.rom h.op h.upc).trans hi, h.subFits hf⟩
  expected := by
    rw [h.op, h.upc]
    exact hs.expected.congr h

theorem State.Inv.congr {s t : State} (hs : s.Inv) (h : s.Alike t) : t.Inv where
  rom := h.rom.trans hs.rom
  guarded := h.log ▸ hs.guarded
  idle ho := h.idleOk (hs.idle (h.op ▸ ho))
  running ho := h.runningOk (hs.running (h.op ▸ ho))

/-! ### The guarded log -/

theorem guarded_nil : Guarded [] := by
  intro n rs b h
  cases h

/-- A write may be logged: fewer than three transfers are, or the last is a status read that was ready (R63). -/
def MayWrite (log : List Transfer) : Prop :=
  log.length < 3 ∨ ∃ a, log.getLast? = some (.read false a) ∧ isBusy a = false

theorem Guarded.concat {log : List Transfer} {x : Transfer} (h : Guarded log)
    (hx : ∀ rs b, x = .write rs b → MayWrite log) : Guarded (log ++ [x]) := by
  intro n rs b hn
  obtain hlt | heq | hgt := Nat.lt_trichotomy (n + 3) log.length
  · rw [List.getElem?_append_left hlt] at hn
    rw [List.getElem?_append_left (by omega)]
    exact h n rs b hn
  · rw [List.getElem?_append_right heq.ge, heq, Nat.sub_self] at hn
    rw [List.getElem?_append_left (by omega)]
    obtain hshort | hready := hx rs b (Option.some.inj hn)
    · omega
    · rwa [List.getLast?_eq_getElem?, ← heq] at hready
  · rw [List.getElem?_eq_none (by simp; omega)] at hn
    cases hn

/-! ### Reset -/

/-- The values of R35 meet the invariant, whatever is left unspecified. -/
theorem State.powerUp_inv {s : State} (hrom : s.rom = .standard) : s.powerUp.Inv where
  rom := hrom
  guarded := guarded_nil
  idle _ := ⟨rfl, rfl, rfl, ⟨rfl, nofun⟩, .inl ⟨rfl, rfl, rfl, rfl⟩⟩
  running ho := absurd rfl ho

/-! ### The start of a micro-operation -/

/-- A micro-operation begins here: no sub-step is done, no call outstanding, no pulse under way. -/
def State.AtStart (s : State) : Prop := s.sub = .zero ∧ s.dlyPend = false ∧ s.Quiet

theorem State.RunningOk.of_start {s : State} (hrom : s.rom = .standard) (hop : s.op ≠ .cmdu) {i : Instr}
    (hi : (Rom.standard.program s.op)[s.upc]? = some i) (hs : s.AtStart) (hh : (expectAt s.op s.upc).Holds s) :
    s.RunningOk :=
  ⟨hop, ⟨i, State.current_of_standard hrom hi, .inl hs⟩, hh⟩

/-! ### A request accepted -/

/-- A request admitted to the idle block enters its operation as the micro-program expects (R187). -/
theorem State.IdleOk.accept_expected {s : State} (h : s.IdleOk) {o : OpCode} (ho : o ≠ .idle)
    (hobj : s.objection o = none) (a : Byte) : o ≠ .cmdu ∧ (expectAt o 0).Holds (s.accept o a) := by
  obtain ⟨hp, hoe, hdir, hlog⟩ | ⟨hp, hclk, hoe, hdir, hrw, hlog⟩ := h.place
  · cases o with
    | init =>
      have hlen : min 3 (s.accept .init a).log.length = 0 := congrArg (fun l => min 3 l.length) hlog
      exact ⟨nofun, hp, nofun, hoe, hdir, nofun, nofun, hlen, nofun, nofun⟩
    | idle => exact absurd rfl ho
    | cmdu | await | cmd | data => simp [State.objection, hp, hoe] at hobj
  · have hentry : (Expect.entry .await).Holds (s.accept o a) :=
      ⟨hp, fun _ => hclk, hoe, hdir, nofun, fun _ => hrw, Nat.min_eq_left hlog, nofun, nofun⟩
    cases o with
    | await | cmd | data => exact ⟨nofun, hentry⟩
    | idle => exact absurd rfl ho
    | init | cmdu => simp [State.objection, hp] at hobj

theorem State.Inv.offer {s : State} (h : s.Inv) {o : OpCode} (ho : o ≠ .idle) (a : Byte) : (s.offer o a).Inv := by
  obtain ⟨-, he⟩ | ⟨-, r, -, he⟩ | ⟨hop, hobj, he⟩ := s.offer_cases o a <;> rw [he]
  · exact h
  · exact h.congr {}
  · obtain ⟨hcmdu, hexp⟩ := (h.idle hop).accept_expected ho hobj a
    obtain ⟨i, hi⟩ := standard_exists_first ho
    have hidle := h.idle hop
    exact ⟨h.rom, h.guarded, fun e => absurd e ho,
      fun _ => .of_start h.rom hcmdu hi ⟨rfl, hidle.dlyPend, hidle.quiet⟩ hexp⟩

theorem State.Inv.hostMove {s t : State} (h : s.Inv) {m : HostMove} (he : hostMove m s = .next t) : t.Inv := by
  obtain ⟨n, -, hm⟩ | ⟨w, -, hm⟩ | ⟨w, i, o, a, -, -, ho, hm⟩ := hostMove_cases m s <;> cases hm.symm.trans he
  · exact h.congr {}
  · exact h.congr {}
  · exact h.offer ho a

/-! ### A micro-operation -/

theorem State.SubFits.atStart {s : State} {i : Instr} (h : s.SubFits i) (hp : i ≠ .pulse) (hd : ∀ n, i ≠ .delay n) :
    s.AtStart := by
  rcases h with h | ⟨-, h, -⟩ | ⟨-, h, -⟩ | ⟨-, ⟨n, h⟩, -⟩
  · exact h
  · exact absurd h hp
  · exact absurd h hp
  · exact absurd h (hd n)

/-- Only inside PULSE may EN be 1. -/
theorem State.SubFits.quiet_or_pulse {s : State} {i : Instr} (h : s.SubFits i) :
    s.Quiet ∨ (i = .pulse ∧ s.en = true ∧ s.pulseWrite = s.writeSelected) := by
  rcases h with ⟨-, -, hq⟩ | ⟨-, hi, -, hen, hp⟩ | ⟨-, hi, hen, hp⟩ | ⟨-, -, hq⟩
  · exact .inl hq
  · exact .inr ⟨hi, hen, hp⟩
  · exact .inr ⟨hi, hen, hp⟩
  · exact .inl hq

/-- How a micro-operation `i` other than END, with `e` expected in front of it, takes the block from `s` to `t`: it stays
at `i`, passes it, or goes back to the start of the poll cycle. -/
inductive State.MovesOn (e : Expect) (i : Instr) (s t : State) : Prop where
  | within (upc : t.upc = s.upc) (fits : t.SubFits i) (holds : e.Holds t)
  | past (upc : t.upc = s.upc + 1) (start : t.AtStart) (holds : (e.after i).Holds t)
  | again (b : Byte) (instr : i = .brbusy b) (upc : t.upc = b.toNat) (start : t.AtStart)
      (holds : Expect.polling.Holds t)

/-- The fall of EN ends the pulse: a write is logged where RW, DIR and CTRL_OE are expected to select one (R13). -/
theorem Expect.Holds.pulse_fall {e : Expect} {s : State} (h : e.Holds s) (hp : s.pulseWrite = s.writeSelected) :
    (e.after .pulse).Holds ((((s.driveEn false).emit (.line .en false)).setSub .zero).advance) := by
  have hsel : s.pulseWrite = (!e.rw && e.dir == .output && e.ctrlOe) := by
    rw [hp, State.writeSelected, h.dir, h.ctrlOe]
    cases hoe : e.ctrlOe with
    | false => simp
    | true => rw [h.rw hoe]
  have hlog : ((((s.driveEn false).emit (.line .en false)).setSub .zero).advance).log =
      if s.pulseWrite then s.log ++ [.write s.rs s.dout] else s.log := s.log_driveEn_fall
  refine ⟨h.phase, h.clocked, h.ctrlOe, h.dir, h.rs, h.rw, ?_, nofun, nofun⟩
  have hw := h.writes
  simp only [Expect.after, ← hsel, hlog]
  cases s.pulseWrite with
  | false => exact hw
  | true =>
    simp
    omega

theorem execPulse_movesOn {e : Expect} {s t : State} (hf : s.SubFits .pulse) (hh : e.Holds s)
    (hw : s.waitsAt .pulse = false) (h : exec .pulse s = .next t) : State.MovesOn e .pulse s t := by
  rcases hf with ⟨hs, hd, -⟩ | ⟨hs, -, -, hen, hp⟩ | ⟨hs, -, -, hp⟩ | ⟨-, ⟨n, hn⟩, -⟩
  · cases (exec_pulse_zero hs).symm.trans h
    exact .within rfl (.inr (.inl ⟨rfl, rfl, hd, rfl, rfl⟩)) { hh with phase := hh.phase }
  · cases (exec_pulse_one hs).symm.trans h
    exact .within rfl (.inr (.inr (.inl ⟨rfl, rfl, hen, hp⟩))) { hh with phase := hh.phase }
  · have hd : s.dlyPend = false := by simpa [State.waitsAt, hs] using hw
    cases (exec_pulse_two hs hd).symm.trans h
    exact .past rfl ⟨rfl, hd, rfl, fun _ => rfl⟩ (hh.pulse_fall hp)
  · cases hn

theorem execDelay_movesOn {e : Expect} {n : Byte} {s t : State} (hf : s.SubFits (.delay n)) (hh : e.Holds s)
    (hw : s.waitsAt (.delay n) = false) (h : exec (.delay n) s = .next t) : State.MovesOn e (.delay n) s t := by
  rcases hf with ⟨hs, -, hq⟩ | ⟨-, hn, -⟩ | ⟨-, hn, -⟩ | ⟨hs, -, hq⟩
  · cases (exec_delay_zero hs).symm.trans h
    exact .within rfl (.inr (.inr (.inr ⟨rfl, ⟨n, rfl⟩, hq⟩))) { hh with phase := hh.phase }
  · cases hn
  · cases hn
  · have hd : s.dlyPend = false := by simpa [State.waitsAt, hs] using hw
    cases (exec_delay_one hs hd).symm.trans h
    exact .past rfl ⟨rfl, hd, hq⟩ { hh with phase := hh.phase }

theorem execBrbusy_movesOn {o : OpCode} {e : Expect} {b : Byte} {s t : State} (hok : e.allows o (.brbusy b) = true)
    (hs : s.AtStart) (hh : e.Holds s) (h : exec (.brbusy b) s = .next t) : State.MovesOn e (.brbusy b) s t := by
  simp only [Expect.allows, Bool.and_eq_true, beq_iff_eq] at hok
  obtain ⟨rfl, -⟩ := hok
  cases h
  cases hb : s.busyFlag with
  | true => exact .again b rfl (by simp [branchTarget]) hs { hh with sampled := nofun, ready := nofun }
  | false =>
    exact .past (by simp) hs { hh with sampled := nofun, ready := fun _ => ⟨s.status, hh.sampled rfl, hb⟩ }

theorem execRdbus_movesOn {o : OpCode} {e : Expect} {s t : State} (hok : e.allows o .rdbus = true)
    (hl : s.latched = []) (hs : s.AtStart) (hh : e.Holds s) (h : exec .rdbus s = .next t) :
    State.MovesOn e .rdbus s t := by
  simp only [Expect.allows, Bool.and_eq_true, beq_iff_eq] at hok
  obtain ⟨hrs, hwrites⟩ := hok
  have hlog : s.sampleBus.advance.log = s.log ++ [.read s.rs s.nextSample] := by simp [State.log, hl]
  have hrs := hh.rs _ hrs
  have hw := hh.writes
  simp only [exec, execRdbus] at h
  split at h <;> cases h
  refine .past rfl hs { hh with writes := ?_, sampled := fun _ => ?_, ready := nofun }
  · simp [hlog, Expect.after]
    omega
  · simp [hlog, hrs]

/-- Under what the invariant allows, a micro-operation leaves the block as the next position expects it. -/
theorem exec_movesOn {o : OpCode} {e : Expect} {i : Instr} {s t : State} (hi : i.format = .uw) (hend : i ≠ .endOp)
    (hok : e.allows o i = true) (hl : s.latched = []) (hf : s.SubFits i) (hh : e.Holds s)
    (hw : s.waitsAt i = false) (h : exec i s = .next t) : State.MovesOn e i s t := by
  cases i with
  | endOp => exact absurd rfl hend
  | clken => cases h; exact .past rfl (hf.atStart nofun nofun) { hh with clocked := fun _ => rfl }
  | cfgctl =>
    cases h
    obtain ⟨hs, hd, -⟩ := hf.atStart nofun nofun
    exact .past rfl ⟨hs, hd, rfl, fun _ => rfl⟩
      { hh with ctrlOe := rfl, rs := fun _ hv => Option.some.inj hv, rw := fun _ => rfl }
  | dir d => cases h; exact .past rfl (hf.atStart nofun nofun) { hh with dir := rfl }
  | setLine l v =>
    have hs := hf.atStart nofun nofun
    cases l with
    | rs => cases h; exact .past rfl hs { hh with rs := fun _ hv => Option.some.inj hv }
    | rw => cases h; exact .past rfl hs { hh with rw := fun _ => rfl }
    | en => cases hok
  | pulse => exact execPulse_movesOn hf hh hw h
  | wri b =>
    simp only [exec, execWri] at h
    split at h <;> cases h
    exact .past rfl (hf.atStart nofun nofun) { hh with phase := hh.phase }
  | wra =>
    simp only [exec, execWra] at h
    split at h <;> cases h
    exact .past rfl (hf.atStart nofun nofun) { hh with phase := hh.phase }
  | rdbus => exact execRdbus_movesOn hok hl (hf.atStart nofun nofun) hh h
  | brbusy b => exact execBrbusy_movesOn hok (hf.atStart nofun nofun) hh h
  | delay n => exact execDelay_movesOn hf hh hw h
  | phase p => cases h; exact .past rfl (hf.atStart nofun nofun) { hh with phase := rfl }
  | init | cmdu _ | await | cmd _ | data _ | lcdBoot8 | lcdFunc | lcdEntry | lcdClear | lcdDispon => cases hi

/-! ### The guarded log, step by step -/

/-- Where a write pulse is under way, the write it will log is allowed. -/
theorem State.Inv.mayWrite {s : State} (h : s.Inv) (hp : s.pulseWrite = true) : MayWrite s.log := by
  have hop : s.op ≠ .idle := fun ho => by simp [(h.idle ho).quiet.1] at hp
  have hrun := h.running hop
  obtain ⟨i, hi, hf⟩ := hrun.position
  obtain ⟨hq, -⟩ | ⟨rfl, -, hsel⟩ := hf.quiet_or_pulse
  · cases hq.symm.trans hp
  obtain ⟨⟨hwrite, -⟩, hoe⟩ : (s.rw = false ∧ s.dir = .output) ∧ s.ctrlOe = true := by
    simpa [State.writeSelected] using hsel.symm.trans hp
  have hok := hrun.allows h.rom hi
  have hexp := hrun.expected
  have hrw := hexp.rw (hexp.ctrlOe ▸ hoe)
  simp only [Expect.allows, ← hrw, hwrite, Bool.false_or, Bool.or_eq_true, decide_eq_true_eq, beq_iff_eq] at hok
  obtain hfew | hready := hok
  · have := hexp.writes
    exact .inl (by omega)
  · exact .inr (hexp.ready hready)

/-- Every event leaves the log guarded, where a write under way may be logged. -/
theorem PinView.see_guarded {v : PinView} (h : Guarded v.log) (hw : v.pulseWrite = true → MayWrite v.log)
    (e : Event) : Guarded (v.see e).log := by
  cases e with
  | line l b =>
    cases l with
    | rs | rw => exact h
    | en =>
      cases b with
      | true => exact h
      | false =>
        simp only [PinView.see]
        split
        · exact h.concat fun _ _ _ => hw ‹_›
        · exact h
  | sample b => exact h.concat nofun
  | _ => exact h

theorem State.Inv.step_guarded {s t : State} (h : s.Inv) (hr : s.resetIn = false) (he : step s = .next t) :
    Guarded t.log := by
  cases step_toldBy hr he with
  | silent _ view =>
    have hlog : t.log = s.log := congrArg PinView.log view
    exact hlog ▸ h.guarded
  | event e _ view =>
    have hlog : t.log = (s.view.see e).log := congrArg PinView.log view
    exact hlog ▸ PinView.see_guarded h.guarded h.mayWrite e

/-! ### ENGINE and DELAY -/

/-- Agent DELAY's answer leaves the block where the micro-operation waits. -/
theorem State.RunningOk.delayMove {s : State} (h : s.RunningOk) {i : Instr} (hi : s.current = some i)
    (hw : s.waitsAt i = true) : s.delayMove.RunningOk := by
  refine ⟨h.notCmdu, ⟨i, hi, ?_⟩, { h.expected with phase := h.expected.phase }⟩
  rcases h.subFits hi with ⟨hs, hd, -⟩ | ⟨hs, rfl, hd, -⟩ | hpulse | hdelay
  · cases i <;> simp [State.waitsAt, hd] at hw
  · simp [State.waitsAt, hd] at hw
  · exact .inr (.inr (.inl hpulse))
  · exact .inr (.inr (.inr hdelay))

/-- At END the block is as R214 and R145 want it at a public operation boundary. -/
theorem State.RunningOk.finish_idleOk {s : State} (h : s.RunningOk) (hrom : s.rom = .standard)
    (hi : s.current = some .endOp) : s.finish.IdleOk := by
  obtain ⟨-, hd, hq⟩ := (h.subFits hi).atStart nofun nofun
  have hok := h.allows hrom hi
  simp only [Expect.allows, Bool.and_eq_true, beq_iff_eq, Bool.not_eq_true'] at hok
  obtain ⟨⟨⟨⟨⟨hphase, hclk⟩, hoe⟩, hdir⟩, hrw⟩, hwrites⟩ := hok
  have hexp := h.expected
  have hlog : 3 ≤ s.log.length := by
    have := hexp.writes
    omega
  exact ⟨rfl, rfl, hd, hq, .inr ⟨hexp.phase.trans hphase, hexp.clocked hclk, hexp.ctrlOe.trans hoe, hexp.dir.trans hdir,
    (hexp.rw hoe).trans hrw, hlog⟩⟩

/-- A micro-operation other than END leaves the block running as its new position expects. -/
theorem State.RunningOk.exec {s t : State} (h : s.RunningOk) (hrom : s.rom = .standard) (hl : s.latched = [])
    {i : Instr} (hi : s.current = some i) (hend : i ≠ .endOp) (hw : s.waitsAt i = false)
    (he : exec i s = .next t) : t.RunningOk := by
  obtain ⟨hk, huw⟩ := State.current_eq.1 hi
  rw [hrom] at hk
  have hok := h.allows hrom hi
  have hop : t.op = s.op := (exec_controlFrame huw he).op.resolve_right hend
  have htrom : t.rom = s.rom := (exec_microFrame huw he).rom
  have hcmdu : t.op ≠ .cmdu := hop ▸ h.notCmdu
  cases exec_movesOn huw hend hok hl (h.subFits hi) h.expected hw he with
  | within upc fits holds =>
    exact ⟨hcmdu, ⟨i, (State.current_congr htrom hop upc).trans hi, fits⟩, by rwa [hop, upc]⟩
  | past upc start holds =>
    obtain ⟨j, hnext⟩ := standard_exists_next hk hend
    exact .of_start (htrom.trans hrom) hcmdu (by rwa [hop, upc]) start (by rwa [hop, upc, expectAt_succ hk])
  | again b instr upc start holds =>
    subst instr
    simp only [Expect.allows, Bool.and_eq_true, List.contains_iff_mem] at hok
    obtain ⟨hpulse, hpoll⟩ := pollStart_expected hok.2
    exact .of_start (htrom.trans hrom) hcmdu (by rwa [hop, upc]) start (by rwa [hop, upc, hpoll])

/-- Settles O47: the invariant tells what each position of a listing expects, and every step keeps to it. -/
theorem stepKeepsInvariant : Obligations.StepKeepsInvariant := by
  intro s t h he
  cases step_cases he with
  | reset _ eq => exact eq ▸ State.powerUp_inv h.rom
  | lcd _ rs b rest hl eq =>
    have hlog : t.log = s.log := eq ▸ congrArg PinView.log (State.view_take hl)
    subst eq
    exact h.congr { log := hlog }
  | delay _ _ ho i hi hw eq =>
    subst eq
    exact ⟨h.rom, h.guarded, fun hidle => absurd hidle ho, fun _ => (h.running ho).delayMove hi hw⟩
  | engine hr hl ho i hi hw eq =>
    have hg := h.step_guarded hr he
    have huw := (State.current_eq.1 hi).2
    have htrom : t.rom = .standard := (exec_microFrame huw eq).rom.trans h.rom
    by_cases hend : i = .endOp
    · subst hend
      cases eq
      exact ⟨htrom, hg, fun _ => (h.running ho).finish_idleOk h.rom hi, fun hop => absurd rfl hop⟩
    · have hop : t.op = s.op := (exec_controlFrame huw eq).op.resolve_right hend
      exact ⟨htrom, hg, fun hidle => absurd (hop ▸ hidle) ho, fun _ => (h.running ho).exec h.rom hl hi hend hw eq⟩
  | hostDelay _ _ _ _ eq =>
    subst eq
    exact h.congr {}
  | nothing _ _ _ _ _ eq => exact eq ▸ h
  | host _ _ _ _ m p _ eq =>
    refine State.Inv.hostMove (s := { s with host := p }) ?_ eq
    exact h.congr {}

/-! ### Pulses and phases in a run -/

/-- EN = 1 on driven pins is seen only inside PULSE. -/
theorem State.Inv.pulse_of_en {s : State} (h : s.Inv) (hoe : s.ctrlOe = true) (hen : s.en = true) :
    s.op ≠ .idle ∧ s.current = some .pulse := by
  have hnq : ¬ s.Quiet := fun hq => by simpa [hen] using hq.2 hoe
  have hop : s.op ≠ .idle := fun ho => hnq (h.idle ho).quiet
  obtain ⟨i, hi, hf⟩ := (h.running hop).position
  obtain ⟨rfl, -⟩ := hf.quiet_or_pulse.resolve_left hnq
  exact ⟨hop, hi⟩

theorem execPulse_pins {s t : State} (h : exec .pulse s = .next t) :
    t.rs = s.rs ∧ t.rw = s.rw ∧ t.dir = s.dir ∧ t.dout = s.dout ∧ t.ctrlOe = s.ctrlOe := by
  simp only [exec, execPulse] at h
  split at h
  · cases h; exact ⟨rfl, rfl, rfl, rfl, rfl⟩
  · cases h; exact ⟨rfl, rfl, rfl, rfl, rfl⟩
  · split at h <;> cases h <;> exact ⟨rfl, rfl, rfl, rfl, rfl⟩

/-- Settles O51: with EN = 1 the running micro-operation is PULSE, which drives no other pin. -/
theorem pinsStableDuringPulse : Obligations.PinsStableDuringPulse := by
  intro s t h hr hoe hen he
  obtain ⟨hop, hpulse⟩ := h.pulse_of_en hoe hen
  cases step_cases he with
  | reset hreset => cases hr.symm.trans hreset
  | lcd _ rs b rest _ eq => subst eq; exact ⟨rfl, rfl, rfl, rfl, rfl⟩
  | delay _ _ _ i _ _ eq => subst eq; exact ⟨rfl, rfl, rfl, rfl, rfl⟩
  | engine _ _ _ i hi _ eq =>
    cases hpulse.symm.trans hi
    exact execPulse_pins eq
  | hostDelay _ _ ho | nothing _ _ ho | host _ _ ho => exact absurd ho hop

/-- Settles O52: only PHASE writes the phase, and it stands in INIT alone, each time one phase further. -/
theorem phaseNeverRegresses : Obligations.PhaseNeverRegresses := by
  intro s t h hr he
  refine (step_control hr he).phase.elim .inl fun ⟨hop, hi⟩ => .inr ?_
  have hrun := h.running hop
  have hok := hrun.allows h.rom hi
  simp only [Expect.allows, Bool.and_eq_true, beq_iff_eq] at hok
  obtain ⟨hinit, hindex⟩ := hok
  rw [hrun.expected.phase]
  exact ⟨hinit, hindex.symm⟩

/-- Settles O42: of all that a step can be, CFGCTL alone writes CTRL_OE and CLKEN alone PCLK_EN, and both set it. -/
theorem outputsStayEnabled : Obligations.OutputsStayEnabled := by
  intro s t hr h
  obtain ⟨-, hoe, hclk⟩ := step_control hr h
  refine ⟨fun hs => ?_, fun hs => ?_, fun hne => ?_, fun hne => ?_⟩
  · obtain e | ⟨-, e⟩ := hoe
    · exact e.trans hs
    · exact e
  · obtain e | ⟨-, e⟩ := hclk
    · exact e.trans hs
    · exact e
  · exact (hoe.resolve_left hne).1
  · exact (hclk.resolve_left hne).1

/-! ### Requests at the port -/

/-- A request instruction offers the operation and the argument `requestOf` names (R81, R82). -/
theorem exec_eq_offer_requestOf {i : Instr} (hi : i.format = .req) :
    ∃ o a, requestOf i = some (o, a) ∧ o ≠ .idle ∧ ∀ s, exec i s = .next (s.offer o a) := by
  cases i with
  | init | cmdu _ | await | cmd _ | data _ => exact ⟨_, _, rfl, nofun, fun _ => rfl⟩
  | _ => cases hi

theorem State.offer_op_ne_idle_iff {s : State} (hs : s.op = .idle) {o : OpCode} (ho : o ≠ .idle) (a : Byte) :
    (s.offer o a).op ≠ .idle ↔ s.objection o = none := by
  obtain ⟨hop, -⟩ | ⟨-, r, hobj, he⟩ | ⟨-, hobj, he⟩ := s.offer_cases o a
  · exact absurd hs hop
  · simp [he, hobj, hs]
  · simp [he, hobj, ho]

/-- With no RESET, no transfer to take and no operation running, the step is HOST's. -/
theorem step_eq_hostStep {s : State} (hr : s.resetIn = false) (hl : s.latched = []) (ho : s.op = .idle) :
    step s = hostStep s := by
  simp [step, agentStep, hr, hl, ho]

/-- An offered request is HOST's move in the next step. -/
theorem State.Offered.step_eq {s : State} {w : Word12} {h : HostProgram} (hs : s.Offered w h) :
    step s = hostMove (.request w) { s with host := h } := by
  simp [step_eq_hostStep hs.resetIn hs.latched hs.op, hostStep, hs.hostPend, hs.move]

theorem State.Offered.reqReady_eq {s : State} {w : Word12} {h : HostProgram} (hs : s.Offered w h) :
    s.reqReady = s.admits w := by
  simp [State.reqReady, State.reqWord, State.hostIssues, State.busyOut, hs.hostPend, hs.op, hs.move]

/-- Settles O15: the step makes the offer, and its admission is what REQ_READY reads. -/
theorem reqReadyMeansAccepted : Obligations.ReqReadyMeansAccepted := by
  intro s w h hs
  rw [hs.reqReady_eq, hs.step_eq]
  cases hd : decodeReq w with
  | error r => simp [State.admits, hostMove, hd, hs.op]
  | ok i =>
    obtain ⟨o, a, hreq, ho, hexec⟩ := exec_eq_offer_requestOf (decodeReq_format hd)
    have hobj : ({ s with host := h } : State).objection o = s.objection o := by cases o <;> rfl
    have hiff := State.offer_op_ne_idle_iff (s := { s with host := h }) hs.op ho a
    simp [State.admits, hostMove, hd, hreq, hexec, hiff, hobj]

/-! ### STATUS -/

/-- A micro-operation that answers `t` answers it again from another STATUS with the same bit 7, but for STATUS itself where
it is not overwritten (R22, R58). -/
theorem exec_status {i : Instr} {s t : State} {b : Byte} (hi : i.format = .uw) (hb : isBusy b = s.busyFlag)
    (h : exec i s = .next t) :
    exec i { s with status := b } = .next t ∨ exec i { s with status := b } = .next { t with status := b } := by
  cases i with
  | endOp | clken | cfgctl | dir _ | phase _ => cases h; exact .inr rfl
  | setLine l v => cases l <;> cases h <;> exact .inr rfl
  | brbusy n =>
    cases h
    have hflag : ({ s with status := b } : State).busyFlag = s.busyFlag := hb
    simp only [exec, execBrbusy, hflag]
    exact .inr rfl
  | pulse =>
    simp only [exec, execPulse] at *
    split at h
    · cases h; exact .inr rfl
    · cases h; exact .inr rfl
    · split at h <;> cases h
      · exact .inr (if_pos ‹_›)
      · exact .inr (if_neg ‹_›)
  | wri n =>
    simp only [exec, execWri] at *
    split at h <;> cases h
    exact .inr rfl
  | wra =>
    simp only [exec, execWra] at *
    split at h <;> cases h
    exact .inr rfl
  | rdbus =>
    simp only [exec, execRdbus] at *
    split at h <;> cases h
    exact .inl rfl
  | delay n =>
    simp only [exec, execDelay] at *
    split at h
    · cases h; exact .inr rfl
    · split at h <;> cases h
      · exact .inr (if_pos ‹_›)
      · exact .inr (if_neg ‹_›)
    · cases h
  | init | cmdu _ | await | cmd _ | data _ | lcdBoot8 | lcdFunc | lcdEntry | lcdClear | lcdDispon => cases hi

theorem State.offer_status (s : State) (b : Byte) (o : OpCode) (a : Byte) :
    ({ s with status := b } : State).offer o a = { s.offer o a with status := b } := by
  have hobj : ({ s with status := b } : State).objection o = s.objection o := by cases o <;> rfl
  unfold State.offer
  rw [hobj]
  split
  · split <;> rfl
  · rfl

theorem hostMove_status {m : HostMove} {s t : State} (b : Byte) (h : hostMove m s = .next t) :
    hostMove m { s with status := b } = .next { t with status := b } := by
  cases m with
  | pause n => cases h; rfl
  | request w =>
    simp only [hostMove] at *
    cases hd : decodeReq w with
    | error r => rw [hd] at h; cases h; rfl
    | ok i =>
      obtain ⟨o, a, -, -, hexec⟩ := exec_eq_offer_requestOf (decodeReq_format hd)
      simp only [hd, hexec] at *
      cases h
      rw [s.offer_status]

theorem hostStep_status {s t : State} (b : Byte) (h : hostStep s = .next t) :
    hostStep { s with status := b } = .next { t with status := b } := by
  unfold hostStep at *
  split at h
  · cases h
    exact if_pos ‹_›
  · refine (if_neg ‹_›).trans ?_
    cases hm : s.host.next with
    | none => simp only [hm] at *; cases h; rfl
    | some mp =>
      simp only [hm] at *
      exact hostMove_status b h

/-- Settles O30: BRBUSY reads bit 7 alone, RDBUS overwrites STATUS, and nothing else looks at it. -/
theorem lowStatusBitsIgnored : Obligations.LowStatusBitsIgnored := by
  intro s t b hb hr h
  cases step_cases h with
  | reset hreset => cases hr.symm.trans hreset
  | lcd _ rs c rest hl eq =>
    subst eq
    exact .inr (step_lcd (s := { s with status := b }) hr hl)
  | delay _ hl ho i hi hw eq =>
    subst eq
    refine .inr (step_eq_delayMove (s := { s with status := b }) ⟨hr, hl, ho⟩ hi ?_)
    cases i <;> exact hw
  | engine _ hl ho i hi hw eq =>
    have hw' : ({ s with status := b } : State).waitsAt i = false := by cases i <;> exact hw
    rw [step_eq_exec (s := { s with status := b }) ⟨hr, hl, ho⟩ hi hw']
    exact exec_status (State.current_eq.1 hi).2 hb eq
  | hostDelay _ hl ho | nothing _ hl ho | host _ hl ho =>
    rw [step_eq_hostStep hr hl ho] at h
    exact .inr ((step_eq_hostStep (s := { s with status := b }) hr hl ho).trans (hostStep_status b h))

/-! ### The reset state -/

/-- Settles O36, by the definition of the reset state. -/
theorem resetValuesGiven : Obligations.ResetValuesGiven :=
  ⟨rfl, rfl, rfl, rfl, rfl, rfl, rfl, rfl, rfl⟩

/-- Settles O45: nothing has happened yet, so the view before the trace is the view of the state. -/
theorem resetIsTracked : Obligations.ResetIsTracked := by
  refine ⟨⟨rfl, rfl, rfl⟩, fun s t hr h => ?_⟩
  cases step_cases h with
  | reset _ eq => subst eq; exact ⟨rfl, rfl, rfl⟩
  | _ hr' => cases hr.symm.trans hr'

/-- Settles O46: the reset state is what RESET leaves of a state that has drawn no free value yet. -/
theorem resetMeetsInvariant : Obligations.ResetMeetsInvariant :=
  fun h bs as => State.powerUp_inv (s := { State.reset with host := h, samples := bs, answers := as, draws := 0 }) rfl

/-! ### The pins -/

theorem State.lcdData_eq_some_iff (s : State) : s.lcdData = some s.dout ↔ s.dir = .output := by
  unfold State.lcdData
  cases s.dir <;> simp

theorem State.lcdData_eq_none_iff (s : State) : s.lcdData = none ↔ s.dir = .input := by
  unfold State.lcdData
  cases s.dir <;> simp

theorem testBit_mask_iff (v : Bool) (m k : Nat) :
    (if v then m else 0).testBit k = true ↔ v = true ∧ m.testBit k = true := by
  cases v <;> simp

theorem State.controlPort_driven (s : State) (m : PinMasks) (k : Nat) :
    (s.controlPort m).driven.testBit k = true ↔
      s.ctrlOe = true ∧ (m.rs.testBit k = true ∨ m.rw.testBit k = true ∨ m.en.testBit k = true) := by
  unfold State.controlPort
  cases s.ctrlOe <;> simp [or_assoc]

theorem State.controlPort_high (s : State) (m : PinMasks) (k : Nat) :
    (s.controlPort m).high.testBit k = true ↔
      (s.lcdLine .rs = some true ∧ m.rs.testBit k = true) ∨ (s.lcdLine .rw = some true ∧ m.rw.testBit k = true) ∨
        (s.lcdLine .en = some true ∧ m.en.testBit k = true) := by
  unfold State.controlPort State.lcdLine
  cases s.ctrlOe with
  | false => simp
  | true => simp [testBit_mask_iff, or_assoc]

/-- Settles O38: the pins and the port image, bit by bit. -/
theorem pinsFollowState : Obligations.PinsFollowState := by
  intro s
  refine ⟨s.lcdData_eq_some_iff, s.lcdData_eq_none_iff, fun hoe => ?_, fun hoe l => ?_, ?_,
    fun m k => ⟨s.controlPort_driven m k, s.controlPort_high m k⟩⟩
  · simp [State.lcdLine, hoe]
  · simp [State.lcdLine, hoe]
  · simp [State.busyOut]

end Sys2Proof.Machine

/-! ## The memory rules R61 to R69: the store, held offers, the bus, samples and writes -/

namespace Sys2Proof.Machine

/-! ### Writes wait for a ready status read -/

theorem Guarded.of_append {l m : List Transfer} (h : Guarded (l ++ m)) : Guarded l := by
  intro n rs b hn
  obtain ⟨hlt, -⟩ := List.getElem?_eq_some_iff.1 hn
  have hg := h n rs b (by rwa [List.getElem?_append_left hlt])
  rwa [List.getElem?_append_left (by omega)] at hg

/-- Settles O54: the invariant guards the whole log, and XFER is its beginning. -/
theorem writesWaitForReady : Obligations.WritesWaitForReady := by
  intro h bs as n t hrun
  have hinv : t.Inv := runSteps_keeps stepKeepsInvariant (resetMeetsInvariant h bs as) hrun
  exact hinv.guarded.of_append

/-! ### The store -/

theorem hostMove_rom {m : HostMove} {s t : State} (h : hostMove m s = .next t) : t.rom = s.rom := by
  obtain ⟨n, -, he⟩ | ⟨w, -, he⟩ | ⟨w, i, o, a, -, -, -, he⟩ := hostMove_cases m s <;> cases he.symm.trans h
  · rfl
  · rfl
  · rw [s.offer_frame o a]

/-- Settles O41: no agent's move writes the store, and RESET keeps it. -/
theorem storeIsReadOnly : Obligations.StoreIsReadOnly := by
  intro s t h
  cases step_cases h with
  | reset _ eq | lcd _ _ _ _ _ eq | delay _ _ _ _ _ _ eq | hostDelay _ _ _ _ eq | nothing _ _ _ _ _ eq =>
    subst eq
    rfl
  | engine _ _ _ i hi _ eq => exact (exec_microFrame (State.current_eq.1 hi).2 eq).rom
  | host _ _ _ _ m p _ eq => exact hostMove_rom (s := { s with host := p }) eq

/-! ### Offers held while an operation runs -/

/-- While an operation runs HOST makes no move, and no other agent touches its side of the request port (R23, R66). -/
theorem step_running_hostFrame {s t : State} (ho : s.op ≠ .idle) (hr : s.resetIn = false) (h : step s = .next t) :
    t.host = s.host ∧ t.hostPend = s.hostPend ∧ t.arg = s.arg ∧ t.refusals = s.refusals := by
  cases step_cases h with
  | reset hreset => cases hr.symm.trans hreset
  | lcd _ _ _ _ _ eq | delay _ _ _ _ _ _ eq =>
    subst eq
    exact ⟨rfl, rfl, rfl, rfl⟩
  | engine _ _ _ i hi _ eq =>
    have hf := exec_microFrame (State.current_eq.1 hi).2 eq
    exact ⟨hf.host, hf.hostPend, hf.arg, hf.refusals⟩
  | hostDelay _ _ hidle | nothing _ _ hidle | host _ _ hidle => exact absurd hidle ho

theorem State.reqReady_of_running {s : State} (ho : s.op ≠ .idle) : s.reqReady = false := by
  unfold State.reqReady
  split <;> simp [ho]

/-- What HOST offers is read off its program, its own call and BUSY_OUT. -/
theorem State.reqWord_congr {s t : State} (hhost : t.host = s.host) (hpend : t.hostPend = s.hostPend)
    (hbusy : t.busyOut = s.busyOut) : t.reqWord = s.reqWord := by
  unfold State.reqWord State.hostIssues
  rw [hhost, hpend, hbusy]

theorem State.busyOut_of_running {s : State} (ho : s.op ≠ .idle) : s.busyOut = true := by
  simpa [State.busyOut] using ho

/-- Settles O14: HOST makes no move, and while BUSY_OUT stays 1 what it offers depends on nothing else. -/
theorem offersHeldWhileRunning : Obligations.OffersHeldWhileRunning := by
  intro s t ho hr h
  obtain ⟨hhost, hpend, harg, href⟩ := step_running_hostFrame ho hr h
  refine ⟨hhost, hpend, harg, href, State.reqReady_of_running ho, fun hot => ?_⟩
  exact State.reqWord_congr hhost hpend
    ((State.busyOut_of_running hot).trans (State.busyOut_of_running ho).symm)

/-! ### The bus and the samples along the listings -/

/-- In front of the micro-operation, RW is known to be 0 or the bus is an input (R61), and a sample finds the phase
Operational (R69). -/
def Expect.busSafe (e : Expect) (i : Instr) : Bool :=
  (e.dir == .input || (e.ctrlOe && !e.rw)) && (i != .rdbus || e.phase == .operational)

theorem standard_busSafe (o : OpCode) :
    ((Rom.standard.program o).zipIdx.all fun p => (expectAt o p.2).busSafe p.1) = true := by
  cases o <;> rfl

theorem expectAt_busSafe {o : OpCode} {k : Nat} {i : Instr} (hk : (Rom.standard.program o)[k]? = some i) :
    (expectAt o k).busSafe i = true :=
  List.all_eq_true.1 (standard_busSafe o) (i, k) (List.mk_mem_zipIdx_iff_getElem?.2 hk)

theorem State.busSafe_of_current {s : State} (hrom : s.rom = .standard) {i : Instr} (hi : s.current = some i) :
    (expectAt s.op s.upc).busSafe i = true :=
  expectAt_busSafe (hrom ▸ (State.current_eq.1 hi).1)

/-! ### The bus is never driven against a read -/

theorem State.RunningOk.dir_of_rw {s : State} (h : s.RunningOk) (hrom : s.rom = .standard) (hrw : s.rw = true) :
    s.dir = .input := by
  obtain ⟨i, hi, -⟩ := h.position
  have hexp := h.expected
  have hsafe := State.busSafe_of_current hrom hi
  simp only [Expect.busSafe, Bool.and_eq_true, Bool.or_eq_true, beq_iff_eq, Bool.not_eq_true'] at hsafe
  obtain ⟨hdir | ⟨hoe, hlow⟩, -⟩ := hsafe
  · exact hexp.dir.trans hdir
  · cases hrw.symm.trans ((hexp.rw hoe).trans hlow)

theorem State.IdleOk.dir_of_rw {s : State} (h : s.IdleOk) (hrw : s.rw = true) : s.dir = .input := by
  obtain ⟨-, -, hdir, -⟩ | ⟨-, -, -, -, hlow, -⟩ := h.place
  · exact hdir
  · cases hrw.symm.trans hlow

theorem State.Inv.dir_of_rw {s : State} (h : s.Inv) (hrw : s.rw = true) : s.dir = .input := by
  by_cases ho : s.op = .idle
  · exact (h.idle ho).dir_of_rw hrw
  · exact (h.running ho).dir_of_rw h.rom hrw

/-- The idle block after INIT drives the bus, with RW and EN low (R34, R36). -/
theorem State.IdleOk.boundary {s : State} (h : s.IdleOk) (hp : s.phase = .operational) :
    s.dir = .output ∧ s.rw = false ∧ s.en = false := by
  obtain ⟨hp', -⟩ | ⟨-, -, hoe, hdir, hrw, -⟩ := h.place
  · cases hp.symm.trans hp'
  · exact ⟨hdir, hrw, h.quiet.2 hoe⟩

/-- Settles O50: wherever a listing lets RW be 1, or leaves it unknown, it expects the bus an input. -/
theorem busNeverFought : Obligations.BusNeverFought := by
  intro s h
  refine ⟨fun hrw => ?_, fun ho hp => (h.idle ho).boundary hp⟩
  have hdir := h.dir_of_rw hrw
  exact ⟨hdir, s.lcdData_eq_none_iff.2 hdir⟩

/-! ### Samples -/

/-- Of the micro-operations RDBUS alone tells a sample (R117). -/
theorem eq_rdbus_of_sample {i : Instr} {s t : State} {b : Byte} (hi : i.format = .uw) (h : exec i s = .next t)
    (ht : t.trace = s.trace ++ [.sample b]) : i = .rdbus := by
  cases i with
  | rdbus => rfl
  | endOp | clken | cfgctl | dir _ | setLine _ _ | brbusy _ | phase _ => cases h; simp at ht
  | pulse =>
    simp only [exec, execPulse] at h
    split at h
    · cases h; simp at ht
    · cases h; simp at ht
    · split at h <;> cases h <;> simp at ht
  | wri n =>
    simp only [exec, execWri] at h
    split at h <;> cases h
    simp at ht
  | wra =>
    simp only [exec, execWra] at h
    split at h <;> cases h
    simp at ht
  | delay n =>
    simp only [exec, execDelay] at h
    split at h
    · cases h; simp at ht
    · split at h <;> cases h <;> simp at ht
    · cases h
  | init | cmdu _ | await | cmd _ | data _ | lcdBoot8 | lcdFunc | lcdEntry | lcdClear | lcdDispon => cases hi

theorem hostMove_no_sample {m : HostMove} {s t : State} {b : Byte} (h : hostMove m s = .next t) :
    t.trace ≠ s.trace ++ [.sample b] := by
  obtain ⟨n, -, he⟩ | ⟨w, -, he⟩ | ⟨w, i, o, a, -, -, -, he⟩ := hostMove_cases m s <;> cases he.symm.trans h
  · simp
  · simp
  · simp [s.trace_offer o a]

/-- A step that takes a sample is ENGINE's, at an RDBUS. -/
theorem step_sample {s t : State} {b : Byte} (hr : s.resetIn = false) (h : step s = .next t)
    (ht : t.trace = s.trace ++ [.sample b]) : s.op ≠ .idle ∧ s.current = some .rdbus := by
  cases step_cases h with
  | reset hreset => cases hr.symm.trans hreset
  | lcd _ _ _ _ _ eq | delay _ _ _ _ _ _ eq | hostDelay _ _ _ _ eq | nothing _ _ _ _ _ eq =>
    subst eq
    simp at ht
  | engine _ _ ho i hi _ eq =>
    obtain rfl := eq_rdbus_of_sample (State.current_eq.1 hi).2 eq ht
    exact ⟨ho, hi⟩
  | host _ _ _ _ m p _ eq => exact absurd ht (hostMove_no_sample (s := { s with host := p }) eq)

/-- Settles O53: only RDBUS samples, and it stands in the listings where the phase is Operational. -/
theorem noSampleBeforeOperational : Obligations.NoSampleBeforeOperational := by
  intro s t b h hr he ht
  obtain ⟨ho, hi⟩ := step_sample hr he ht
  have hrun := h.running ho
  have hsafe := State.busSafe_of_current h.rom hi
  simp only [Expect.busSafe, Bool.and_eq_true, Bool.or_eq_true, beq_iff_eq, bne_self_eq_false] at hsafe
  obtain ⟨-, hno | hphase⟩ := hsafe
  · cases hno
  · exact hrun.expected.phase.trans hphase

end Sys2Proof.Machine

/-! ## The encoding rules R80 to R96: the three decoders, what is built, and the step that runs a decoded word -/

namespace Sys2Proof

open Laws (codeField_word operandField_word)

/-! ### Words and their fields -/

theorem word_fields (w : Word12) : word (codeField w) (operandField w) = w :=
  (BitVec.extractLsb'_append_extractLsb'_eq_extractLsb' rfl).trans BitVec.extractLsb'_eq_self

/-- A word is known from the number in its code field and from its operand. -/
theorem word_eq {w : Word12} {c : BitVec 4} {b : Byte} (hc : (codeField w).toNat = c.toNat) (hb : operandField w = b) :
    word c b = w := by
  rw [← BitVec.eq_of_toNat_eq hc, ← hb, word_fields]

/-- A part of the operand field is the same part of the word (R85). -/
theorem operandField_extractLsb' (w : Word12) {start len : Nat} (h : start + len ≤ 8) :
    (operandField w).extractLsb' start len = w.extractLsb' start len := by
  ext k hk
  have hlt : start + k < 8 := by omega
  simp [operandField, BitVec.getElem_extractLsb', hlt]

/-! ### Operands -/

theorem decodeDir_bit (d : BusDir) : decodeDir d.bit = .ok (.dir d) := by
  cases d <;> rfl

theorem decodeSet_bits (l : Line) (v : Bool) : decodeSet (l.bits ||| levelBit v) = .ok (.setLine l v) := by
  cases l <;> cases v <;> rfl

theorem decodePhase_bits (p : Phase) : decodePhase p.bits = .ok (.phase p) := by
  cases p <;> rfl

/-- An operand that is 0 from bit 1 up is one bit. -/
theorem eq_of_bits_above_zero {b : Byte} (h : b.extractLsb' 1 7 = 0) : b = 0 ∨ b = 1 := by
  have hdiv : b.toNat / 2 % 128 = 0 := by simpa [Nat.shiftRight_eq_div_pow] using congrArg BitVec.toNat h
  bv_omega

/-- An operand that is 0 from bit 3 up is one of eight bytes. -/
theorem eq_of_bits_above_two {b : Byte} (h : b.extractLsb' 3 5 = 0) :
    b = 0 ∨ b = 1 ∨ b = 2 ∨ b = 3 ∨ b = 4 ∨ b = 5 ∨ b = 6 ∨ b = 7 := by
  have hdiv : b.toNat / 8 % 32 = 0 := by simpa [Nat.shiftRight_eq_div_pow] using congrArg BitVec.toNat h
  bv_omega

theorem decodeDir_inv {b : Byte} {i : Instr} (h : decodeDir b = .ok i) : ∃ d, i = .dir d ∧ b = d.bit := by
  by_cases hb : b.extractLsb' 1 7 = 0
  · rcases eq_of_bits_above_zero hb with rfl | rfl
    · cases h; exact ⟨.input, rfl, rfl⟩
    · cases h; exact ⟨.output, rfl, rfl⟩
  · rw [decodeDir, if_neg hb] at h; cases h

theorem decodeSet_inv {b : Byte} {i : Instr} (h : decodeSet b = .ok i) :
    ∃ l v, i = .setLine l v ∧ b = l.bits ||| levelBit v := by
  by_cases hb : b.extractLsb' 3 5 = 0
  · rcases eq_of_bits_above_two hb with rfl | rfl | rfl | rfl | rfl | rfl | rfl | rfl <;> cases h <;>
      exact ⟨_, _, rfl, rfl⟩
  · rw [decodeSet, if_neg hb] at h; cases h

theorem decodePhase_inv {b : Byte} {i : Instr} (h : decodePhase b = .ok i) : ∃ p, i = .phase p ∧ b = p.bits := by
  by_cases hb : b.extractLsb' 3 5 = 0
  · rcases eq_of_bits_above_two hb with rfl | rfl | rfl | rfl | rfl | rfl | rfl | rfl <;> cases h <;>
      exact ⟨_, rfl, rfl⟩
  · rw [decodePhase, if_neg hb] at h; cases h

/-! ### The round trips -/

/-- Settles O1: the fields of the encoded word are the code and the operand, and each operand decodes to itself. -/
theorem decodeOfEncode : Obligations.DecodeOfEncode := by
  intro i
  cases i with
  | init | cmdu _ | await | cmd _ | data _ =>
    simp [encode, decode, decodeReq, codeField_word, operandField_word, withoutOperand]
  | dir d => simp [encode, decode, decodeUw, codeField_word, operandField_word, decodeDir_bit]
  | setLine l v => simp [encode, decode, decodeUw, codeField_word, operandField_word, decodeSet_bits]
  | phase p => simp [encode, decode, decodeUw, codeField_word, operandField_word, decodePhase_bits]
  | lcdBoot8 | lcdFunc | lcdEntry | lcdClear | lcdDispon => rfl
  | endOp | clken | cfgctl | pulse | wri _ | wra | rdbus | brbusy _ | delay _ =>
    simp [encode, decode, decodeUw, codeField_word, operandField_word, withoutOperand]

theorem encode_of_decodeReq {w : Word12} {i : Instr} (h : decodeReq w = .ok i) : encode i = .req w := by
  unfold decodeReq at h
  split at h <;> rename_i hc
  case h_1 | h_3 => obtain ⟨hb, rfl⟩ := withoutOperand_ok h; exact congrArg _ (word_eq hc hb)
  case h_2 | h_4 | h_5 => cases h; exact congrArg _ (word_eq hc rfl)
  case h_6 => cases h

theorem encode_of_decodeUw {w : Word12} {i : Instr} (h : decodeUw w = .ok i) : encode i = .uw w := by
  unfold decodeUw at h
  split at h <;> rename_i hc
  case h_4 => obtain ⟨d, rfl, hb⟩ := decodeDir_inv h; exact congrArg _ (word_eq hc hb)
  case h_5 => obtain ⟨l, v, rfl, hb⟩ := decodeSet_inv h; exact congrArg _ (word_eq hc hb)
  case h_12 => obtain ⟨p, rfl, hb⟩ := decodePhase_inv h; exact congrArg _ (word_eq hc hb)
  case h_7 | h_10 | h_11 => cases h; exact congrArg _ (word_eq hc rfl)
  case h_13 => cases h
  all_goals obtain ⟨hb, rfl⟩ := withoutOperand_ok h; exact congrArg _ (word_eq hc hb)

/-- Settles O2: each decoder fixes the code and the operand, so it fixes the word. -/
theorem encodeOfDecode : Obligations.EncodeOfDecode := by
  intro c i h
  cases c with
  | req w => exact encode_of_decodeReq h
  | uw w => exact encode_of_decodeUw h
  | bus b => rcases decodeBus_ok h with ⟨rfl, rfl⟩ | ⟨rfl, rfl⟩ | ⟨rfl, rfl⟩ | ⟨rfl, rfl⟩ | ⟨rfl, rfl⟩ <;> rfl

/-- Settles O3: the decoder computes on each word. -/
theorem listedWordsDecode : Obligations.ListedWordsDecode :=
  ⟨rfl, rfl, rfl, rfl, rfl, rfl, rfl, rfl, rfl, rfl⟩

/-! ### Reserved words -/

theorem withoutOperand_toOption_eq_none_iff {b : Byte} {i : Instr} : (withoutOperand b i).toOption = none ↔ b ≠ 0 := by
  unfold withoutOperand
  split
  · exact iff_of_false nofun (absurd ‹b = 0›)
  · exact iff_of_true rfl ‹b ≠ 0›

theorem decodeDir_toOption_eq_none_iff {b : Byte} : (decodeDir b).toOption = none ↔ b.extractLsb' 1 7 ≠ 0 := by
  unfold decodeDir
  split
  · exact iff_of_false nofun (absurd ‹_›)
  · exact iff_of_true rfl ‹_›

theorem decodeSet_toOption_eq_none_iff {b : Byte} :
    (decodeSet b).toOption = none ↔ b.extractLsb' 3 5 ≠ 0 ∨ b.extractLsb' 1 2 = 3 := by
  by_cases hb : b.extractLsb' 3 5 = 0
  · rcases eq_of_bits_above_two hb with rfl | rfl | rfl | rfl | rfl | rfl | rfl | rfl <;> decide
  · rw [decodeSet, if_neg hb]
    exact iff_of_true rfl (.inl hb)

theorem decodePhase_toOption_eq_none_iff {b : Byte} :
    (decodePhase b).toOption = none ↔ b.extractLsb' 3 5 ≠ 0 ∨ 5 ≤ (b.extractLsb' 0 3).toNat := by
  by_cases hb : b.extractLsb' 3 5 = 0
  · rcases eq_of_bits_above_two hb with rfl | rfl | rfl | rfl | rfl | rfl | rfl | rfl <;> decide
  · rw [decodePhase, if_neg hb]
    exact iff_of_true rfl (.inl hb)

/-- Settles O5: row by row, each operand's decoder rejects what R89 reserves in that row. -/
theorem reservedMicroWordsRejected : Obligations.ReservedMicroWordsRejected := by
  intro w
  rw [show w.extractLsb' 8 4 = codeField w from rfl, show w.extractLsb' 0 8 = operandField w from rfl,
    ← operandField_extractLsb' w (start := 1) (len := 7) (by decide),
    ← operandField_extractLsb' w (start := 3) (len := 5) (by decide),
    ← operandField_extractLsb' w (start := 1) (len := 2) (by decide),
    ← operandField_extractLsb' w (start := 0) (len := 3) (by decide)]
  unfold decodeUw
  split <;> rename_i hc
  case h_1 | h_2 | h_3 | h_6 | h_8 | h_9 => simp [hc, withoutOperand_toOption_eq_none_iff]
  case h_4 => simp [hc, decodeDir_toOption_eq_none_iff]
  case h_5 => simp [hc, decodeSet_toOption_eq_none_iff]
  case h_12 => simp [hc, decodePhase_toOption_eq_none_iff]
  case h_7 | h_10 | h_11 => simp [hc, Except.toOption]
  case h_13 =>
    have hge : 12 ≤ (codeField w).toNat := by simp only [imp_false] at *; omega
    exact iff_of_true rfl (.inl hge)

/-- The request decoder rejects the words R88 reserves. -/
theorem decodeReq_reserved {w : Word12}
    (h : (codeField w).toNat = 0 ∨ 6 ≤ (codeField w).toNat ∨
      (((codeField w).toNat = 1 ∨ (codeField w).toNat = 3) ∧ operandField w ≠ 0)) :
    ∃ r, decodeReq w = .error r := by
  unfold decodeReq
  split <;> rename_i hc
  case h_1 | h_3 =>
    have hb : operandField w ≠ 0 := by simpa [hc] using h
    exact ⟨_, if_neg hb⟩
  case h_6 => exact ⟨_, rfl⟩
  all_goals simp [hc] at h

namespace Machine

/-- Settles O4: the decoder rejects the word, so it is not admitted, and HOST's step only reports it. -/
theorem reservedRequestWordsRefused : Obligations.ReservedRequestWordsRefused := by
  intro s w h hs hw
  obtain ⟨r, hr⟩ := decodeReq_reserved hw
  refine ⟨by rw [hs.reqReady_eq]; simp [State.admits, hr], { s with host := h }.turnAway .reservedEncoding, ?_, rfl⟩
  rw [hs.step_eq]
  simp [hostMove, hr]

/-! ### The step that runs a decoded word -/

/-- Settles O8: the step is HOST's move, and the move executes what the word decodes to. -/
theorem requestStepRunsDecoded : Obligations.RequestStepRunsDecoded := by
  intro s w h i hs (hd : decodeReq w = .ok i)
  rw [hs.step_eq]
  simp [hostMove, hd]

/-- With no RESET, a latched transfer makes the step LCD's. -/
theorem step_eq_lcdStep {s : State} {rs : Bool} {b : Byte} {rest : List (Bool × Byte)} (hr : s.resetIn = false)
    (hl : s.latched = (rs, b) :: rest) : step s = lcdStep rs b { s with latched := rest } := by
  simp [step, agentStep, hr, hl]

/-- Settles O10: the step is LCD's, which reads a byte with RS = 0 as a command. -/
theorem lcdStepRunsDecoded : Obligations.LcdStepRunsDecoded := by
  intro s b rest i hr hl (hd : decodeBus b = .ok i)
  rw [step_eq_lcdStep hr hl]
  simp [lcdStep, hd]

/-- Settles O35: the step is LCD's, which takes every byte into XFER. -/
theorem everyByteReachesController : Obligations.EveryByteReachesController := by
  intro s rs b rest hr hl
  rw [step_eq_lcdStep hr hl, lcdStep_eq]
  rfl

/-- Settles O34: each command receives its own code (R8, R95). -/
theorem lcdCommandsReachController : Obligations.LcdCommandsReachController :=
  fun _ => ⟨rfl, rfl, rfl, rfl, rfl⟩

/-- At the idle block a request nothing objects to is accepted. -/
theorem State.offer_admitted {s : State} (hs : s.op = .idle) {o : OpCode} (ho : s.objection o = none) (a : Byte) :
    s.offer o a = s.accept o a := by
  simp [State.offer, hs, ho]

/-- Settles O12: the admission table has no objection (R187), and accepting writes the four fields. -/
theorem admittedRequestsAccepted : Obligations.AdmittedRequestsAccepted := by
  intro s b hs
  have hexec {i : Instr} {o : OpCode} {a : Byte} (hi : exec i s = .next (s.offer o a)) (ho : s.objection o = none) :
      exec i s = .next (s.accept o a) := by
    rw [hi, State.offer_admitted hs ho]
  refine ⟨fun hp => hexec rfl (if_pos hp), fun ⟨hp, hpins⟩ => hexec rfl ?_, fun hp => ⟨?_, ?_, ?_⟩⟩
  · exact (if_neg hp).trans (if_pos hpins)
  · exact hexec rfl (if_pos hp)
  · exact hexec rfl (if_pos hp)
  · exact hexec rfl (if_pos hp)

/-! ### Building a micro-program -/

theorem decodeAll_eq_ok_iff {ws : List Word12} {p : List Instr} : decodeAll ws = .ok p ↔ ws.map decodeUw = p.map .ok := by
  refine ⟨decodeAll_ok, fun h => ?_⟩
  induction ws generalizing p with
  | nil => cases p with
    | nil => rfl
    | cons i p => cases h
  | cons w ws ih => cases p with
    | nil => cases h
    | cons i p =>
      obtain ⟨hw, hws⟩ := List.cons.inj h
      simp [decodeAll, hw, ih hws]

/-- What decodes one by one holds micro-operations only (R84). -/
theorem onlyMicro_of_map_decodeUw {ws : List Word12} {p : List Instr} (h : ws.map decodeUw = p.map .ok) :
    MicroProgram.onlyMicro p = true := by
  refine List.all_eq_true.2 fun i hi => ?_
  have hok : (.ok i : Except Reject Instr) ∈ ws.map decodeUw := h ▸ List.mem_map_of_mem hi
  obtain ⟨w, -, hw⟩ := List.mem_map.1 hok
  exact beq_iff_eq.2 (decodeUw_format hw)

theorem build_of_decodeAll {d : BusDir} {ws : List Word12} {p : List Instr} (h : decodeAll ws = .ok p)
    (hwf : MicroProgram.wf d p = true) : build d ws = .ok p := by
  simp only [MicroProgram.wf, Bool.and_eq_true] at hwf
  obtain ⟨⟨⟨-, hend⟩, hbranch⟩, hdir⟩ := hwf
  simp [build, h, hend, hbranch, hdir]

/-- What is built is what decodes one by one to a well-formed micro-program (R89, R130, U1). -/
theorem build_eq_ok_iff {d : BusDir} {ws : List Word12} {p : List Instr} :
    build d ws = .ok p ↔ ws.map decodeUw = p.map .ok ∧ MicroProgram.wf d p = true := by
  constructor
  · intro h
    obtain ⟨hdec, hend, hbranch, hdir⟩ := build_ok h
    have hmap := decodeAll_ok hdec
    exact ⟨hmap, by simp [MicroProgram.wf, onlyMicro_of_map_decodeUw hmap, hend, hbranch, hdir]⟩
  · rintro ⟨hmap, hwf⟩
    exact build_of_decodeAll (decodeAll_eq_ok_iff.2 hmap) hwf

theorem build_of_reserved {d : BusDir} {ws : List Word12} (h : ∃ w ∈ ws, (decodeUw w).toOption = none) :
    ∃ r, build d ws = .error (.reservedWord r) := by
  obtain ⟨w, hw, hnone⟩ := h
  cases hall : decodeAll ws with
  | error r => exact ⟨r, by simp [build, hall]⟩
  | ok p =>
    have hmem : decodeUw w ∈ p.map .ok := decodeAll_ok hall ▸ List.mem_map_of_mem hw
    obtain ⟨i, -, hi⟩ := List.mem_map.1 hmem
    simp [← hi, Except.toOption] at hnone

/-- A micro-program that ends once has its END at the last index and at no other (R130). -/
theorem getElem?_eq_endOp_iff {p : List Instr} (h : MicroProgram.endsOnce p = true) (k : Nat) :
    p[k]? = some .endOp ↔ k + 1 = p.length := by
  simp only [MicroProgram.endsOnce, Bool.and_eq_true, beq_iff_eq] at h
  obtain ⟨hlast, hcount⟩ := h
  obtain ⟨q, rfl⟩ := List.getLast?_eq_some_iff.1 hlast
  have hq : .endOp ∉ q := by simpa [List.count_eq_zero] using hcount
  rw [List.length_append, List.length_singleton]
  constructor
  · intro hk
    have hlt : k < q.length + 1 := by simpa using (List.getElem?_eq_some_iff.1 hk).1
    have hge : ¬ k < q.length := fun hkq => hq (List.mem_of_getElem? (List.getElem?_append_left hkq ▸ hk))
    omega
  · intro hk
    obtain rfl : k = q.length := by omega
    exact List.getElem?_concat_length

theorem target_lt_of_branchesInside {p : List Instr} (h : MicroProgram.branchesInside p = true) {k : Nat} {t : Byte}
    (hk : p[k]? = some (.brbusy t)) : t.toNat + 1 < p.length :=
  of_decide_eq_true (List.all_eq_true.1 h _ (List.mem_of_getElem? hk))

/-- Settles O6, from what is built and what a micro-program that ends once looks like. -/
theorem builtProgramsAreWellFormed : Obligations.BuiltProgramsAreWellFormed := by
  refine fun d ws => ⟨build_of_reserved, fun p => build_eq_ok_iff, fun p h => ?_⟩
  obtain ⟨-, hend, hbranch, -⟩ := build_ok h
  exact ⟨getElem?_eq_endOp_iff hend, fun k t => target_lt_of_branchesInside hbranch⟩

/-! ### The word placed for the next step (log 19) -/

theorem foldl_dirAfter_eq {d : BusDir} {q : List Instr} (h : ∀ i ∈ q, MicroProgram.dirAfter d i = d) :
    q.foldl MicroProgram.dirAfter d = d := by
  induction q with
  | nil => rfl
  | cons i q ih =>
    rw [List.foldl_cons, h i List.mem_cons_self]
    exact ih fun j hj => h j (List.mem_cons_of_mem i hj)

theorem dirAt_eq {d : BusDir} {p : List Instr} (h : ∀ i ∈ p, MicroProgram.dirAfter d i = d) (k : Nat) :
    MicroProgram.dirAt d p k = d :=
  foldl_dirAfter_eq fun i hi => h i (List.mem_of_mem_take hi)

theorem accessesOk_of_forall {d now : BusDir} {p q : List Instr} (hdir : ∀ i ∈ q, MicroProgram.dirAfter now i = now)
    (hok : ∀ i ∈ q, MicroProgram.accessOk d p now i = true) : MicroProgram.accessesOk d p now q = true := by
  induction q with
  | nil => rfl
  | cons i q ih =>
    rw [MicroProgram.accessesOk, hok i List.mem_cons_self, hdir i List.mem_cons_self, Bool.true_and]
    exact ih (fun j hj => hdir j (List.mem_cons_of_mem i hj)) fun j hj => hok j (List.mem_cons_of_mem i hj)

/-- What the words `around` a branch decode to: CLKEN behind it up to its target, then END. -/
def branchProgram (t : Byte) : List Instr := .brbusy t :: (List.replicate t.toNat .clken ++ [.endOp])

theorem mem_branchProgram {t : Byte} {i : Instr} (h : i ∈ branchProgram t) : i = .brbusy t ∨ i = .clken ∨ i = .endOp := by
  simp only [branchProgram, List.mem_cons, List.mem_append, List.mem_replicate, List.not_mem_nil, or_false] at h
  tauto

theorem branchProgram_keeps_dir {t : Byte} (d : BusDir) : ∀ i ∈ branchProgram t, MicroProgram.dirAfter d i = d := by
  intro i hi
  rcases mem_branchProgram hi with rfl | rfl | rfl <;> rfl

theorem branchProgram_wf (t : Byte) (d : BusDir) : MicroProgram.wf d (branchProgram t) = true := by
  have hlen : (branchProgram t).length = t.toNat + 2 := by simp [branchProgram]
  have honly : MicroProgram.onlyMicro (branchProgram t) = true := by
    refine List.all_eq_true.2 fun i hi => ?_
    rcases mem_branchProgram hi with rfl | rfl | rfl <;> rfl
  have hend : MicroProgram.endsOnce (branchProgram t) = true := by
    simp [MicroProgram.endsOnce, branchProgram, List.getLast?_cons, List.count_replicate]
  have hbranch : MicroProgram.branchesInside (branchProgram t) = true := by
    refine List.all_eq_true.2 fun i hi => ?_
    rcases mem_branchProgram hi with rfl | rfl | rfl
    · simp [hlen]
    · rfl
    · rfl
  have hdir : MicroProgram.directionOk d (branchProgram t) = true := by
    refine accessesOk_of_forall (branchProgram_keeps_dir d) fun i hi => ?_
    rcases mem_branchProgram hi with rfl | rfl | rfl
    · exact beq_iff_eq.2 (dirAt_eq (branchProgram_keeps_dir d) t.toNat)
    · rfl
    · rfl
  simp [MicroProgram.wf, honly, hend, hbranch, hdir]

theorem build_in_front_of_end {w : Word12} {i : Instr} (h : decodeUw w = .ok i)
    (hwf : MicroProgram.wf .input [i, .endOp] = true) : ∃ p, build .input [w, 0x000] = .ok p ∧ p[0]? = some i :=
  ⟨[i, .endOp], build_eq_ok_iff.2 ⟨by simp only [List.map, h]; rfl, hwf⟩, rfl⟩

theorem build_behind_dir_out {w : Word12} {i : Instr} (h : decodeUw w = .ok i)
    (hwf : MicroProgram.wf .input [.dir .output, i, .endOp] = true) :
    ∃ p, build .input [0x301, w, 0x000] = .ok p ∧ p[1]? = some i :=
  ⟨[.dir .output, i, .endOp], build_eq_ok_iff.2 ⟨by simp only [List.map, h]; rfl, hwf⟩, rfl⟩

/-- Around each micro word that decodes a micro-program is built, with the micro-operation at the place named. -/
theorem build_around {w : Word12} {i : Instr} (h : decodeUw w = .ok i) :
    ∃ p, build .input (around w i).1 = .ok p ∧ p[(around w i).2]? = some i := by
  cases i with
  | endOp => exact ⟨[.endOp], build_eq_ok_iff.2 ⟨by simp [around, h], rfl⟩, rfl⟩
  | wri _ | wra => exact build_behind_dir_out h rfl
  | brbusy t =>
    refine ⟨branchProgram t, build_eq_ok_iff.2 ⟨?_, branchProgram_wf t .input⟩, rfl⟩
    simp only [around, branchProgram, List.map_cons, List.map_append, List.map_replicate, h]
    rfl
  | clken | cfgctl | dir _ | setLine _ _ | pulse | rdbus | delay _ | phase _ => exact build_in_front_of_end h rfl
  | init | cmdu _ | await | cmd _ | data _ | lcdBoot8 | lcdFunc | lcdEntry | lcdClear | lcdDispon =>
    cases decodeUw_format h

/-- At sub-step 0 no micro-operation waits. -/
theorem State.waitsAt_of_sub_zero {s : State} (h : s.sub = .zero) (i : Instr) : s.waitsAt i = false := by
  cases i <;> simp [State.waitsAt, h]

/-- A placed micro word is what ENGINE runs next. -/
theorem step_placeWord_uw (s : State) {w : Word12} {i : Instr} (h : decodeUw w = .ok i) :
    step (s.placeWord (.uw w)) = exec i (s.placeWord (.uw w)) := by
  obtain ⟨p, hp, hk⟩ := build_around h
  have hplace : s.placeWord (.uw w) =
      { s with
        op := .init, upc := (around w i).2, sub := .zero, latched := [], resetIn := false
        rom := { s.rom with init := p } } := by
    simp only [State.placeWord, h, State.placeProgram]
    rw [show OpCode.init.entryDir = .input from rfl, hp]
  rw [hplace]
  exact step_eq_exec ⟨rfl, rfl, by simp⟩ (State.current_eq.2 ⟨hk, decodeUw_format h⟩) (State.waitsAt_of_sub_zero rfl i)

/-- A placed request is offered to the idle block, and HOST's program behind it is the one before. -/
theorem offered_placeWord (s : State) (w : Word12) : (s.placeWord (.req w)).Offered w s.host :=
  ⟨rfl, rfl, rfl, rfl, rfl⟩

/-- Settles O11, port by port: a placed request is offered, a micro word is ENGINE's, a bus byte is latched. -/
theorem placedTableWordIsRun : Obligations.PlacedTableWordIsRun := by
  intro s nbits w i h
  unfold State.withFetchWord
  have hd : decode (tableCodeWord nbits w) = .ok i := by
    unfold decodeTableWord at h
    cases hdec : decode (tableCodeWord nbits w) with
    | error r => simp [hdec, Except.toOption] at h
    | ok j => simpa [hdec, Except.toOption] using h
  generalize tableCodeWord nbits w = c at hd ⊢
  cases c with
  | req w => exact requestStepRunsDecoded _ w s.host i (offered_placeWord s w) hd
  | uw w => exact step_placeWord_uw s hd
  | bus b => exact lcdStepRunsDecoded (s.placeWord (.bus b)) b [] i rfl rfl hd

end Machine

end Sys2Proof

/-! ## The pin and port rules R110 to R118: the primitives, the enable pulse, and the preconditions of a run -/

namespace Sys2Proof.Machine

/-! ### Where the pin primitives stand in the listings -/

/-- A micro-operation that is at index `n` of INIT, and that no other place of a listing holds, stands there alone. -/
theorem standard_eq_some_iff_of_once {i : Instr} {n : Nat} (hn : Rom.standard.init[n]? = some i)
    (hall : ∀ o, ∀ x ∈ (Rom.standard.program o).zipIdx, x.1 = i → o = .init ∧ x.2 = n) (o : OpCode) (k : Nat) :
    (Rom.standard.program o)[k]? = some i ↔ o = .init ∧ k = n := by
  refine ⟨fun hk => hall o (i, k) (List.mk_mem_zipIdx_iff_getElem?.2 hk) rfl, ?_⟩
  rintro ⟨rfl, rfl⟩
  exact hn

theorem standard_eq_clken_iff (o : OpCode) (k : Nat) :
    (Rom.standard.program o)[k]? = some .clken ↔ o = .init ∧ k = 0 :=
  standard_eq_some_iff_of_once rfl (fun o => by cases o <;> decide) o k

theorem standard_eq_cfgctl_iff (o : OpCode) (k : Nat) :
    (Rom.standard.program o)[k]? = some .cfgctl ↔ o = .init ∧ k = 1 :=
  standard_eq_some_iff_of_once rfl (fun o => by cases o <;> decide) o k

theorem standard_ne_setEnable (o : OpCode) (k : Nat) (v : Bool) :
    (Rom.standard.program o)[k]? ≠ some (.setLine .en v) := by
  have hall : ∀ i ∈ Rom.standard.program o, ∀ v, i ≠ .setLine .en v := by cases o <;> decide
  exact fun hk => hall _ (List.mem_of_getElem? hk) v rfl

/-- In front of DIR out stands SET RW,0, or at INIT index 2 CFGCTL (R61, R112). -/
theorem standard_before_dirOut {o : OpCode} {k : Nat} (hk : (Rom.standard.program o)[k]? = some (.dir .output)) :
    ∃ j, k = j + 1 ∧ ((Rom.standard.program o)[j]? = some (.setLine .rw false) ∨
      (o = .init ∧ k = 2 ∧ (Rom.standard.program o)[j]? = some .cfgctl)) := by
  have hall : ∀ x ∈ (Rom.standard.program o).zipIdx, x.1 = .dir .output →
      x.2 ≠ 0 ∧ ((Rom.standard.program o)[x.2 - 1]? = some (.setLine .rw false) ∨
        (o = .init ∧ x.2 = 2 ∧ (Rom.standard.program o)[x.2 - 1]? = some .cfgctl)) := by
    cases o <;> decide
  obtain ⟨hpos, hbefore⟩ := hall _ (List.mk_mem_zipIdx_iff_getElem?.2 hk) rfl
  exact ⟨k - 1, (Nat.succ_pred hpos).symm, hbefore⟩

theorem expectAt_rw_of_dirOut {o : OpCode} {k : Nat} (hk : (Rom.standard.program o)[k]? = some (.dir .output)) :
    (expectAt o k).rw = false := by
  obtain ⟨j, rfl, hj | ⟨-, -, hj⟩⟩ := standard_before_dirOut hk <;> rw [expectAt_succ hj] <;> rfl

/-! ### The levels of the pins in front of a micro-operation -/

/-- RS, RW and DIR are expected at the levels of a transfer of operation `o`: a write, to the data register in DATA alone,
or a status read (R50, R55, R57). -/
def Expect.selectsTransfer (o : OpCode) (e : Expect) : Bool :=
  (!e.rw && e.dir == .output && e.rs == some (o == .data)) || (e.rw && e.dir == .input && e.rs == some false)

/-- The control pins are driven in front of each micro-operation but CLKEN and CFGCTL, and a PULSE finds a transfer
selected. -/
def Expect.pinsReady (o : OpCode) (e : Expect) : Instr → Bool
  | .clken => true
  | .cfgctl => true
  | .pulse => e.ctrlOe && e.selectsTransfer o
  | _ => e.ctrlOe

theorem standard_pinsReady (o : OpCode) :
    ((Rom.standard.program o).zipIdx.all fun p => (expectAt o p.2).pinsReady o p.1) = true := by
  cases o <;> rfl

theorem Expect.ctrlOe_of_pinsReady {o : OpCode} {e : Expect} {i : Instr} (h : e.pinsReady o i = true)
    (hclken : i ≠ .clken) (hcfg : i ≠ .cfgctl) : e.ctrlOe = true := by
  cases i with
  | clken => exact absurd rfl hclken
  | cfgctl => exact absurd rfl hcfg
  | pulse => exact (Bool.and_eq_true_iff.1 h).1
  | _ => exact h

theorem State.transferSelected_iff (s : State) : s.transferSelected = true ↔
    (s.rw = false ∧ s.dir = .output ∧ (s.rs = true ↔ s.op = .data)) ∨ (s.rw = true ∧ s.dir = .input ∧ s.rs = false) := by
  have hrs : s.rs = (s.op == .data) ↔ (s.rs = true ↔ s.op = .data) := by rw [Bool.eq_iff_iff, beq_iff_eq]
  simp [State.transferSelected, and_assoc, hrs]

theorem Expect.Holds.transferSelected {e : Expect} {s : State} (h : e.Holds s) (hoe : e.ctrlOe = true)
    (hsel : e.selectsTransfer s.op = true) : s.transferSelected = true := by
  simp only [Expect.selectsTransfer, ← h.rw hoe, ← h.dir, Bool.or_eq_true, Bool.and_eq_true, beq_iff_eq] at hsel
  obtain ⟨hlevels, hdata⟩ | ⟨hlevels, hlow⟩ := hsel
  · simp [State.transferSelected, hlevels, h.rs _ hdata]
  · simp [State.transferSelected, hlevels, h.rs _ hlow]

theorem State.pinsReady_of_current {s : State} {i : Instr} (hrom : s.rom = .standard) (hi : s.current = some i) :
    (expectAt s.op s.upc).pinsReady s.op i = true :=
  List.all_eq_true.1 (standard_pinsReady s.op) (i, s.upc)
    (List.mk_mem_zipIdx_iff_getElem?.2 (hrom ▸ (State.current_eq.1 hi).1))

namespace State.RunningOk

variable {s : State} {i : Instr}

theorem ctrlOe (h : s.RunningOk) (hrom : s.rom = .standard) (hi : s.current = some i) (hclken : i ≠ .clken)
    (hcfg : i ≠ .cfgctl) : s.ctrlOe = true :=
  h.expected.ctrlOe.trans (Expect.ctrlOe_of_pinsReady (State.pinsReady_of_current hrom hi) hclken hcfg)

/-- Where the control pins are driven, EN is 0 outside PULSE. -/
theorem en (h : s.RunningOk) (hrom : s.rom = .standard) (hi : s.current = some i) (hclken : i ≠ .clken)
    (hcfg : i ≠ .cfgctl) (hpulse : i ≠ .pulse) : s.en = false :=
  ((h.subFits hi).quiet_or_pulse.resolve_right fun hp => hpulse hp.1).2 (h.ctrlOe hrom hi hclken hcfg)

theorem pulse_levels (h : s.RunningOk) (hrom : s.rom = .standard) (hi : s.current = some .pulse) :
    s.ctrlOe = true ∧ s.transferSelected = true ∧ (if s.sub = .zero then !s.en else s.en) = true := by
  obtain ⟨hoe, hsel⟩ := Bool.and_eq_true_iff.1 (State.pinsReady_of_current hrom hi)
  have hdriven : s.ctrlOe = true := h.expected.ctrlOe.trans hoe
  refine ⟨hdriven, h.expected.transferSelected hoe hsel, ?_⟩
  rcases h.subFits hi with ⟨hs, -, hq⟩ | ⟨hs, -, -, hen, -⟩ | ⟨hs, -, hen, -⟩ | ⟨-, ⟨n, hn⟩, -⟩
  · simp [hs, hq.2 hdriven]
  · simp [hs, hen]
  · simp [hs, hen]
  · cases hn

theorem endOp_levels (h : s.RunningOk) (hrom : s.rom = .standard) (hi : s.current = some .endOp) :
    s.rw = false ∧ s.dir = .output ∧ s.dlyPend = false := by
  obtain ⟨-, hd, -⟩ := (h.subFits hi).atStart nofun nofun
  have hok := h.allows hrom hi
  simp only [Expect.allows, Bool.and_eq_true, beq_iff_eq, Bool.not_eq_true'] at hok
  obtain ⟨⟨⟨⟨-, hoe⟩, hdir⟩, hrw⟩, -⟩ := hok
  exact ⟨(h.expected.rw hoe).trans hrw, h.expected.dir.trans hdir, hd⟩

theorem brbusy_sampled {t : Byte} (h : s.RunningOk) (hrom : s.rom = .standard) (hi : s.current = some (.brbusy t)) :
    s.log.getLast? = some (.read false s.status) := by
  have hok := h.allows hrom hi
  simp only [Expect.allows, Bool.and_eq_true, beq_iff_eq] at hok
  exact h.expected.sampled (hok.1 ▸ rfl)

theorem phase_inOrder {p : Phase} (h : s.RunningOk) (hrom : s.rom = .standard) (hi : s.current = some (.phase p)) :
    s.phase.index + 1 = p.index := by
  have hok := h.allows hrom hi
  simp only [Expect.allows, Bool.and_eq_true, beq_iff_eq] at hok
  exact h.expected.phase ▸ hok.2

/-- Under the invariant the micro-operation at (OP, UPC) has its precondition. -/
theorem precondition (h : s.RunningOk) (hrom : s.rom = .standard) (hi : s.current = some i) :
    precondition s i = true := by
  have hoe := h.ctrlOe hrom hi
  have hen := h.en hrom hi
  have hdir := h.accessOk hrom hi
  cases i with
  | dir d => simp [Machine.precondition, hen nofun nofun nofun]
  | setLine l v => cases l <;> simp [Machine.precondition, hoe nofun nofun, hen nofun nofun nofun]
  | pulse => simpa [Machine.precondition, and_assoc] using h.pulse_levels hrom hi
  | wri b | wra | rdbus =>
    simp only [Machine.precondition, hen nofun nofun nofun, Bool.not_false, Bool.and_true]
    exact hdir
  | brbusy t => simp [Machine.precondition, h.brbusy_sampled hrom hi]
  | delay n => simp [Machine.precondition, hen nofun nofun nofun]
  | phase p => simp [Machine.precondition, h.phase_inOrder hrom hi]
  | endOp =>
    obtain ⟨hrw, hout, hd⟩ := h.endOp_levels hrom hi
    simp [Machine.precondition, hen nofun nofun nofun, hrw, hout, hd]
  | _ => rfl

end State.RunningOk

/-- Settles O49: the listings drive the pins, and select a transfer, where a micro-operation asks for it. -/
theorem preconditionsAlwaysHold : Obligations.PreconditionsAlwaysHold := by
  intro s h ho
  have hrun := h.running ho
  obtain ⟨i, hi, -⟩ := hrun.position
  refine ⟨i, hi, hrun.precondition h.rom hi, ?_, ?_⟩
  · rintro rfl
    obtain ⟨-, hsel, -⟩ := hrun.pulse_levels h.rom hi
    exact s.transferSelected_iff.1 hsel
  · rintro t rfl
    exact hrun.brbusy_sampled h.rom hi

/-! ### The enable pulse -/

theorem exec_pulse_waits {s : State} (h : s.sub = .two) (hp : s.dlyPend = true) : exec .pulse s = .next s := by
  simp only [exec, execPulse, h, hp]
  rfl

theorem answersAfter_singleton_append (m : Nat) (more : List Bool) :
    answersAfter [m] ++ more = List.replicate m false ++ true :: more := by
  simp [answersAfter]

/-- Settles O23: the pulse runs to its fall, and agent LCD takes the transfer if the pulse was a write. -/
theorem pulseLatchesOneTransfer : Obligations.PulseLatchesOneTransfer := by
  intro s m more h hi hs hd hoe ha
  rw [answersAfter_singleton_append] at ha
  refine ⟨fun ⟨hrw, hdir⟩ => ?_, fun ⟨hrw, hdir⟩ => ?_⟩
  · have hsel : s.writeSelected = true := by simp [State.writeSelected, hrw, hdir, hoe]
    rw [show m + 5 = 1 + (m + 4) by omega, run_pulse 1 m h hi hs ha]
    refine Eq.trans (runSteps_next (step_lcd ?_ (if_pos hsel)) 0) ?_
    · exact h.resetIn
    simp [h.latched, hd]
  · have hsel : s.writeSelected = false := by simp [State.writeSelected, hrw]
    rw [show m + 4 = 0 + (m + 4) by omega, run_pulse 0 m h hi hs ha]
    simp [hsel, h.latched, hd]

/-- Settles O24: both run the rise, the call and the fall, and differ in the positions they pass. -/
theorem pulseEqualsSetDelaySet : Obligations.PulseEqualsSetDelaySet := by
  intro s hs hd
  exact ⟨_, _, _, _, _, _, _, exec_pulse_zero hs, exec_pulse_one rfl, exec_pulse_two rfl rfl, rfl, exec_delay_zero hs,
    exec_delay_one rfl rfl, rfl, rfl⟩

/-- Settles O21, from the rise and the fall of EN. -/
theorem setEnableIsAnEdge : Obligations.SetEnableIsAnEdge := by
  refine fun s => ⟨rfl, ?_⟩
  simp only [exec, execSetLine, State.driveLine_atEn, State.driveEn_fall]
  rfl

/-- Settles O22, one sub-step at a time. -/
theorem pulseSubSteps : Obligations.PulseSubSteps := by
  refine fun s => ⟨fun hs => exec_pulse_zero hs, fun hs => exec_pulse_one hs, fun ⟨hs, hd⟩ => exec_pulse_waits hs hd,
    fun ⟨hs, hd⟩ => ?_⟩
  rw [exec_pulse_two hs hd, State.driveEn_fall]
  rfl

/-! ### The clocks, the control pins, the bus direction and the lines -/

/-- Settles O17: the word and the effect by evaluation, the one place from the listings. -/
theorem clkenEnablesBothClocks : Obligations.ClkenEnablesBothClocks :=
  ⟨rfl, fun _ => rfl, standard_eq_clken_iff⟩

/-- Settles O18, in the same way as O17. -/
theorem cfgctlDrivesLinesLow : Obligations.CfgctlDrivesLinesLow :=
  ⟨rfl, fun _ => ⟨_, rfl, rfl⟩, standard_eq_cfgctl_iff⟩

/-- Settles O19: RW = 0 at DIR out because of what stands in front of it. -/
theorem dirTurnsBus : Obligations.DirTurnsBus := by
  refine ⟨rfl, rfl, fun s d => ⟨_, rfl, rfl, rfl⟩, fun o k => standard_before_dirOut, fun s d h ho hi => ?_⟩
  have hrun := h.running ho
  refine ⟨hrun.en h.rom hi nofun nofun nofun, ?_⟩
  rintro rfl
  have hdriven := hrun.expected.ctrlOe.symm.trans (hrun.ctrlOe h.rom hi nofun nofun)
  exact (hrun.expected.rw hdriven).trans (expectAt_rw_of_dirOut (h.rom ▸ (State.current_eq.1 hi).1))

/-- Settles O20: its last part because only CLKEN and CFGCTL find the control pins not driven. -/
theorem setLineDrivesOneLine : Obligations.SetLineDrivesOneLine := by
  refine ⟨⟨rfl, rfl, rfl, rfl, rfl, rfl, rfl, rfl⟩, fun s v => ⟨rfl, rfl, _, rfl, rfl⟩, standard_ne_setEnable,
    fun s l v h ho hi => ?_⟩
  have hrun := h.running ho
  exact ⟨hrun.ctrlOe h.rom hi nofun nofun, fun _ => hrun.en h.rom hi nofun nofun nofun⟩

/-! ### Bus accesses -/

/-- Settles O25, from the two accesses with the bus an output. -/
theorem writeBusDrivesByte : Obligations.WriteBusDrivesByte :=
  fun _ _ hdir => ⟨exec_wri hdir, exec_wra hdir⟩

/-- Settles O26, from the access with the bus an input. -/
theorem rdbusSamplesByte : Obligations.RdbusSamplesByte := by
  rintro s _ hdir rfl
  exact exec_rdbus hdir

/-- Settles O27: with the other direction each access is a fault. -/
theorem busAccessAgainstDirectionStops : Obligations.BusAccessAgainstDirectionStops := by
  intro s b
  refine ⟨fun hdir => ⟨?_, ?_⟩, fun hdir => ?_⟩
  · simp only [exec, execWri, hdir]
  · simp only [exec, execWra, hdir]
  · simp only [exec, execRdbus, hdir]

end Sys2Proof.Machine

/-! ## The sequencer rules R130 to R134: END, BRBUSY, DELAY, PHASE, and the step that runs a micro word -/

namespace Sys2Proof.Machine

/-! ### Where END, DELAY and PHASE stand in the listings -/

theorem standard_endsOnce {o : OpCode} (ho : o ≠ .idle) : MicroProgram.endsOnce (Rom.standard.program o) = true := by
  cases o with
  | idle => exact absurd rfl ho
  | _ => rfl

def isDelay : Instr → Bool
  | .delay _ => true
  | _ => false

def isPhase : Instr → Bool
  | .phase _ => true
  | _ => false

/-- Where the micro-operations with the property `q` are those of `l`, all of them in INIT, each stands at its place in `l`
and nowhere else. -/
theorem standard_eq_some_iff_of_filter {q : Instr → Bool} {l : List (Instr × Nat)}
    (hall : ∀ o, ((Rom.standard.program o).zipIdx.filter fun x => q x.1) = if o = .init then l else [])
    {i : Instr} (hi : q i = true) (o : OpCode) (k : Nat) :
    (Rom.standard.program o)[k]? = some i ↔ o = .init ∧ (i, k) ∈ l := by
  have hfilter : (i, k) ∈ ((Rom.standard.program o).zipIdx.filter fun x => q x.1) ↔
      (Rom.standard.program o)[k]? = some i := by
    rw [List.mem_filter, List.mk_mem_zipIdx_iff_getElem?]
    exact and_iff_left hi
  rw [← hfilter, hall]
  by_cases ho : o = .init <;> simp [ho]

theorem standard_eq_delay_iff (o : OpCode) (k : Nat) (n : Byte) : (Rom.standard.program o)[k]? = some (.delay n) ↔
    o = .init ∧ ((k = 3 ∧ n = 30) ∨ (k = 9 ∧ n = 10) ∨ (k = 15 ∧ n = 1)) := by
  have hall (o : OpCode) : ((Rom.standard.program o).zipIdx.filter fun x => isDelay x.1) =
      if o = .init then [(.delay 30, 3), (.delay 10, 9), (.delay 1, 15)] else [] := by
    cases o <;> rfl
  rw [standard_eq_some_iff_of_filter hall rfl]
  simp [and_comm]

theorem standard_eq_phase_iff (o : OpCode) (k : Nat) (p : Phase) : (Rom.standard.program o)[k]? = some (.phase p) ↔
    o = .init ∧ ((k = 8 ∧ p = .bootstrappingA) ∨ (k = 14 ∧ p = .bootstrappingB) ∨ (k = 20 ∧ p = .bootstrappingC) ∨
      (k = 21 ∧ p = .operational)) := by
  have hall (o : OpCode) : ((Rom.standard.program o).zipIdx.filter fun x => isPhase x.1) =
      if o = .init then [(.phase .bootstrappingA, 8), (.phase .bootstrappingB, 14), (.phase .bootstrappingC, 20),
        (.phase .operational, 21)] else [] := by
    cases o <;> rfl
  rw [standard_eq_some_iff_of_filter hall rfl]
  simp [and_comm]

/-! ### END -/

/-- Settles O28: a listing ends once, and under the invariant its END has its precondition. -/
theorem endReturnsToIdle : Obligations.EndReturnsToIdle := by
  refine ⟨rfl, fun _ => rfl, ?_, fun o k ho => getElem?_eq_endOp_iff (standard_endsOnce ho) k, fun s h ho hi => ?_⟩
  · rintro s _ ⟨⟩
    rfl
  · have hrun := h.running ho
    exact ⟨hrun.en h.rom hi nofun nofun nofun, hrun.endOp_levels h.rom hi⟩

/-! ### BRBUSY -/

/-- Settles O29: BRBUSY is one jump, and BUSY, which chooses where to, is bit 7 of STATUS (R30). -/
theorem brbusyTestsBitSeven : Obligations.BrbusyTestsBitSeven := by
  intro s t
  have hexec {u : Nat} (hu : (if s.busyFlag then branchTarget t else s.upc + 1) = u) :
      exec (.brbusy t) s = .next { s with upc := u } := hu ▸ rfl
  exact ⟨fun hbusy => hexec (if_pos hbusy), fun hready => hexec (if_neg (Bool.eq_false_iff.1 hready))⟩

/-! ### DELAY -/

/-- The word of DELAY is its code with the operand in the bits below it (R83, R84). -/
theorem word_delay (n : Byte) : word 0xA n = 0xA00 ||| n.zeroExtend 12 := rfl

theorem delayArgument_toNat (n : Byte) : (delayArgument n).toNat = n.toNat :=
  BitVec.toNat_setWidth_of_le (by decide)

theorem exec_delay_call {s : State} (n : Byte) (h : s.sub = .zero) : ∃ a : BitVec 16, a.toNat = n.toNat ∧
    exec (.delay n) s =
      .next { s with dlyN := a, dlyPend := true, trace := s.trace ++ [.delay n.toNat], sub := .one } := by
  refine ⟨delayArgument n, delayArgument_toNat n, ?_⟩
  rw [exec_delay_zero h, ← delayArgument_toNat n]
  rfl

theorem exec_delay_waits {s : State} (n : Byte) (h : s.sub = .one) (hp : s.dlyPend = true) :
    exec (.delay n) s = .next s := by
  simp only [exec, execDelay, h, hp]
  rfl

/-- The sub-steps of DELAY do not depend on EN. -/
theorem exec_delay_subSteps (s : State) (n : Byte) :
    (s.sub = .zero → ∃ a : BitVec 16, a.toNat = n.toNat ∧ exec (.delay n) s =
      .next { s with dlyN := a, dlyPend := true, trace := s.trace ++ [.delay n.toNat], sub := .one }) ∧
    (s.sub = .one ∧ s.dlyPend = true → exec (.delay n) s = .next s) ∧
    (s.sub = .one ∧ s.dlyPend = false → exec (.delay n) s = .next { s with sub := .zero, upc := s.upc + 1 }) :=
  ⟨exec_delay_call n, fun ⟨hs, hp⟩ => exec_delay_waits n hs hp, fun ⟨hs, hp⟩ => exec_delay_one hs hp⟩

/-- Settles O31: the sub-steps one by one, the places from the listings, EN from the invariant. -/
theorem delaySubSteps : Obligations.DelaySubSteps := by
  refine ⟨fun n => ?_, fun s n _ => exec_delay_subSteps s n, standard_eq_delay_iff, fun s n h ho hi => ?_⟩
  · rw [← word_delay]
    exact decodeOfEncode (.delay n)
  · exact (h.running ho).en h.rom hi nofun nofun nofun

/-! ### PHASE -/

/-- Settles O32: the words and the effect by evaluation, the places from the listings, the order from the invariant. -/
theorem phaseEntersPhase : Obligations.PhaseEntersPhase :=
  ⟨⟨rfl, rfl, rfl, rfl, rfl, rfl, rfl⟩, fun _ _ _ => rfl, standard_eq_phase_iff,
    fun _ _ h ho hi => (h.running ho).phase_inOrder h.rom hi⟩

/-- Settles O33: neither DELAY nor PHASE looks at its precondition (log 12). -/
theorem brokenPreconditionsArePerformed : Obligations.BrokenPreconditionsArePerformed :=
  fun s => ⟨fun n _ => exec_delay_subSteps s n, fun _ _ => rfl⟩

/-! ### The step of ENGINE -/

/-- ENGINE waits in PULSE and DELAY alone, at the sub-step behind the call (R134). -/
theorem State.waitsAt_iff (s : State) (i : Instr) : s.waitsAt i = true ↔
    s.dlyPend = true ∧ ((i = .pulse ∧ s.sub = .two) ∨ (∃ n, i = .delay n) ∧ s.sub = .one) := by
  cases i <;> simp [State.waitsAt]

/-- What a word of a built micro-program decodes to stands at the word's index. -/
theorem getElem?_of_build {d : BusDir} {ws : List Word12} {p : List Instr} (h : build d ws = .ok p) {k : Nat}
    {w : Word12} {i : Instr} (hw : ws[k]? = some w) (hi : decodeUw w = .ok i) : p[k]? = some i := by
  have hmap := congrArg (·[k]?) (build_eq_ok_iff.1 h).1
  simpa [hw, hi, eq_comm] using hmap

/-- Settles O9: the word at UPC was built to the current micro-operation, which runs unless it waits. -/
theorem engineStepRunsDecoded : Obligations.EngineStepRunsDecoded := by
  intro s ws w i h hbuild hw hi
  have hcurrent : s.current = some i := State.current_eq.2 ⟨getElem?_of_build hbuild hw hi, decodeUw_format hi⟩
  rw [← s.waitsAt_iff i]
  exact ⟨step_eq_delayMove h hcurrent, fun hn => step_eq_exec h hcurrent (Bool.eq_false_iff.2 hn)⟩

end Sys2Proof.Machine

/-! ## The operation rules R140 to R143: the listings, CMDU, AWAIT, CMD and DATA from the offer to the END -/

namespace Sys2Proof.Machine

/-! ### The listings -/

/-- Settles O7: the listings are words, and building each one computes the micro-program the store holds. -/
theorem microProgramsAreTheListings : Obligations.MicroProgramsAreTheListings := by
  refine ⟨rfl, rfl, rfl, rfl, rfl, fun o ho => ?_⟩
  cases o with
  | idle => exact absurd rfl ho
  | init | cmdu | await | cmd | data => exact ⟨rfl, rfl⟩

/-- The micro-operations of a poll window at the start of a micro-program (R141). -/
def pollWindowOps : List Instr :=
  [.dir .input, .setLine .rs false, .setLine .rw true, .pulse, .rdbus, .brbusy 3, .setLine .rw false, .dir .output]

/-- The micro-operations of the write cycle that drives ARG (R140, R142, R143). -/
def argWriteOps (rs : Bool) : List Instr := [.setLine .rs rs, .setLine .rw false, .wra, .pulse]

/-- The operation that writes its argument behind a poll window: a character by DATA, a command by CMD. -/
def polledWriteOp (rs : Bool) : OpCode := if rs then .data else .cmd

theorem standard_cmdu : Rom.standard.program .cmdu = argWriteOps false ++ [.endOp] := rfl

theorem standard_await : Rom.standard.program .await = pollWindowOps ++ [.endOp] := rfl

theorem standard_polledWrite (rs : Bool) :
    Rom.standard.program (polledWriteOp rs) = pollWindowOps ++ (argWriteOps rs ++ [.endOp]) := by
  cases rs <;> rfl

/-! ### CMDU at the idle block -/

/-- At the idle block a request with an objection is turned away. -/
theorem State.offer_refused {s : State} (hs : s.op = .idle) {o : OpCode} {r : Reason} (ho : s.objection o = some r)
    (a : Byte) : s.offer o a = s.turnAway r := by
  simp [State.offer, hs, ho]

/-- Settles O16: an idle block is as after reset, with the pins not driven, or as after INIT, in phase Operational. -/
theorem uncheckedCommandNeverAdmittedIdle : Obligations.UncheckedCommandNeverAdmittedIdle := by
  intro s c h hs
  have hrefused {r : Reason} (hr : s.objection .cmdu = some r) : exec (.cmdu c) s = .next (s.turnAway r) :=
    congrArg _ (State.offer_refused hs hr c)
  obtain ⟨hp, hoe, -, -⟩ | ⟨hp, -⟩ := (h.idle hs).place
  · exact .inl ⟨hp, hrefused (by simp [State.objection, hp, hoe])⟩
  · exact .inr ⟨hp, hrefused (by simp [State.objection, hp])⟩

/-! ### From the offer to the END -/

/-- A run that begins with the offer of a request. -/
theorem State.Offered.run_request {s t : State} {w : Word12} {h : HostProgram} {i : Instr} (hs : s.Offered w h)
    (hd : decode (.req w) = .ok i) (he : exec i { s with host := h } = .next t) (n : Nat) :
    runSteps (n + 1) s = runSteps n t :=
  runSteps_next ((requestStepRunsDecoded s w h i hs hd).trans he) n

/-- With an operation just accepted, ENGINE moves next. -/
theorem State.Offered.engineTurn {s : State} {w : Word12} {h : HostProgram} (hs : s.Offered w h) {o : OpCode}
    (ho : o ≠ .idle) (a : Byte) : ({ s with host := h }.accept o a).EngineTurn :=
  ⟨hs.resetIn, hs.latched, ho⟩

/-- The last step of an operation. -/
theorem run_endOp {s : State} (h : s.EngineTurn) (hi : s.current = some .endOp) : runSteps 1 s = .next s.finish :=
  run_oneStep 0 .endOp h hi ⟨nofun, nofun⟩ rfl

/-- A run that begins with the poll window at the start of a micro-program. -/
theorem run_firstPollWindow {s : State} (n : Nat) {more : List Bool} {rest : List Byte} {q : List Instr} {ms : List Nat}
    {bs : List Byte} (hm : ms.length = bs.length) (hb : PollsUntilReady bs) (h : s.EngineTurn)
    (hprog : s.rom.program s.op = pollWindowOps ++ q) (hupc : s.upc = 0) (hs : s.sub = .zero) (hd : s.dlyPend = false)
    (ha : s.answers = answersAfter ms ++ more) (hx : s.samples = bs ++ rest) :
    runSteps (n + (ms.sum + (5 + 6 * bs.length))) s = runSteps n { s with
      dir := .output, rs := false, rw := false, en := false, pulseWrite := false, dlyN := 0, answers := more,
      samples := rest, draws := s.draws + (ms.sum + 2 * bs.length), status := bs.getLastD s.status,
      trace := s.trace ++ pollEvents bs, xfer := s.xfer ++ pollEntries bs, upc := 8 } := by
  have hwindow : ∀ k < 8, (s.rom.program s.op)[s.upc + k]? = pollWindowOps[k]? := by
    intro k hk
    rw [hprog, hupc, Nat.zero_add]
    exact List.getElem?_append_left hk
  rw [run_pollWindow n 3 ms bs hm hb h (by simp [hupc]) hwindow hs hd ha hx, hupc]

/-- A run of the write cycle of ARG and the END behind it, to the idle block. -/
theorem run_lastArgWrite {s : State} (m : Nat) {more : List Bool} {rs : Bool} (h : s.EngineTurn)
    (hprog : (s.rom.program s.op).drop s.upc = argWriteOps rs ++ [.endOp])
    (hready : s.sub = .zero ∧ s.dlyPend = false ∧ s.dir = .output ∧ s.ctrlOe = true)
    (ha : s.answers = answersAfter [m] ++ more) :
    runSteps (m + 9) s = .next { s with
      op := .idle, upc := 0, sub := .zero, en := false, rs := rs, rw := false, dout := s.arg, pulseWrite := false,
      dlyN := 0, answers := more, draws := s.draws + (m + 1), trace := s.trace ++ writeEvents rs s.arg,
      xfer := s.xfer ++ [.write rs s.arg] } := by
  have hat (k : Nat) : (s.rom.program s.op)[s.upc + k]? = (argWriteOps rs ++ [.endOp])[k]? := by
    rw [← hprog, List.getElem?_drop]
  obtain ⟨hs, hd, hdir, hoe⟩ := hready
  rw [answersAfter_singleton_append] at ha
  rw [show m + 9 = 1 + (m + 8) by omega, run_writeCycle 1 m rs s.arg .wra h (hat 0) (hat 1) (hat 2) (hat 3)
    (.inr ⟨rfl, rfl⟩) hs hd hdir hoe ha]
  exact run_endOp ⟨h.resetIn, h.latched, h.op⟩ (State.current_eq.2 ⟨hat 4, rfl⟩)

/-! ### The four operations -/

/-- The word of CMDU is its code with the operand in the bits below it (R81, R82). -/
theorem word_cmdu (c : Byte) : word 0x2 c = 0x200 ||| c.zeroExtend 12 := rfl

/-- The words of CMD and DATA, in the same way. -/
theorem word_polledWrite (rs : Bool) (b : Byte) :
    encode (if rs then .data b else .cmd b) = .req ((if rs then 0x500 else 0x400) ||| b.zeroExtend 12) := by
  cases rs <;> rfl

/-- In phase Operational CMD and DATA are accepted (R187). -/
theorem exec_polledWrite {s : State} (hs : s.op = .idle) (hp : s.phase = .operational) (rs : Bool) (b : Byte) :
    exec (if rs then .data b else .cmd b) s = .next (s.accept (polledWriteOp rs) b) := by
  obtain ⟨-, -, haccepted⟩ := admittedRequestsAccepted s b hs
  obtain ⟨-, hcmd, hdata⟩ := haccepted hp
  cases rs
  · exact hcmd
  · exact hdata

/-- Settles O57: the offer is accepted, and the write cycle is all of the micro-program. -/
theorem uncheckedWriteCompletes : Obligations.UncheckedWriteCompletes := by
  intro s h c m more hs hrom hp hoe hdir hd ha
  obtain ⟨-, haccepted, -⟩ := admittedRequestsAccepted { s with host := h } c hs.op
  rw [hs.run_request (i := .cmdu c) (word_cmdu c ▸ decodeOfEncode (.cmdu c)) (haccepted ⟨hp, hoe, hdir⟩) (m + 9)]
  have hturn := hs.engineTurn (o := .cmdu) nofun c
  refine (run_lastArgWrite m (rs := false) hturn ?_ ⟨rfl, hd, hdir, hoe⟩ ha).trans ?_
  · simp [hrom, standard_cmdu]
  · simp [hs.op]

/-- Settles O55: the offer is accepted, the poll window is all of the micro-program up to its END. -/
theorem awaitPollsUntilReady : Obligations.AwaitPollsUntilReady := by
  intro s h bs rest ms more hs hrom hp hd hb hm hx ha
  obtain ⟨-, -, haccepted⟩ := admittedRequestsAccepted { s with host := h } 0 hs.op
  obtain ⟨hawait, -⟩ := haccepted hp
  rw [show ms.sum + (7 + 6 * bs.length) = 1 + (ms.sum + (5 + 6 * bs.length)) + 1 by omega,
    hs.run_request (decodeOfEncode .await) hawait]
  have hturn := hs.engineTurn (o := .await) nofun 0
  have hprog : s.rom.program .await = pollWindowOps ++ [.endOp] := hrom ▸ standard_await
  refine (run_firstPollWindow 1 hm hb hturn hprog rfl rfl hd ha hx).trans ?_
  refine (run_endOp (s := _) ?_ (State.current_eq.2 ⟨?_, rfl⟩)).trans ?_
  · exact ⟨hturn.resetIn, hturn.latched, hturn.op⟩
  · simp [hprog, pollWindowOps]
  · simp [State.finish, hs.op]

/-- Settles O56: the offer is accepted, then the poll window, then the write cycle. -/
theorem polledWriteCompletes : Obligations.PolledWriteCompletes := by
  intro s h rs b bs rest ms more hs hrom hp hoe hd hb hm hx ha
  obtain ⟨ms, m, rfl⟩ : ∃ l m, ms = l ++ [m] :=
    ⟨_, _, (List.dropLast_append_getLast (List.ne_nil_of_length_eq_add_one hm)).symm⟩
  have hlen : ms.length = bs.length := by simpa using hm
  have hanswers : s.answers = answersAfter ms ++ (answersAfter [m] ++ more) := by simp [ha, answersAfter]
  have hturn := hs.engineTurn (o := polledWriteOp rs) (by cases rs <;> nofun) b
  have hprog : s.rom.program (polledWriteOp rs) = pollWindowOps ++ (argWriteOps rs ++ [.endOp]) :=
    hrom ▸ standard_polledWrite rs
  rw [show (ms ++ [m]).sum + (15 + 6 * bs.length) = m + 9 + (ms.sum + (5 + 6 * bs.length)) + 1 by simp; omega,
    hs.run_request (word_polledWrite rs b ▸ decodeOfEncode _) (exec_polledWrite (s := { s with host := h }) hs.op hp rs b)]
  refine (run_firstPollWindow (m + 9) hlen hb hturn hprog rfl rfl hd hanswers hx).trans ?_
  refine (run_lastArgWrite (s := _) m (more := more) (rs := rs) ?_ ?_ ?_ ?_).trans ?_
  · exact ⟨hturn.resetIn, hturn.latched, hturn.op⟩
  · simp [hprog, pollWindowOps]
  · exact ⟨rfl, hd, rfl, hoe⟩
  · rfl
  · simp [hs.op]
    omega

end Sys2Proof.Machine

/-! ## INIT (R160 to R162, R214): from the offer to the END -/

namespace Sys2Proof.Machine

/-! ### The rest of a micro-program -/

/-- ENGINE is in front of the micro-operations `q`, the rest of the running micro-program, at the start of the first. -/
structure State.Faces (s : State) (q : List Instr) : Prop where
  turn : s.EngineTurn
  rest : (s.rom.program s.op).drop s.upc = q
  sub : s.sub = .zero
  dlyPend : s.dlyPend = false

theorem State.Faces.getElem? {s : State} {q : List Instr} (h : s.Faces q) (k : Nat) :
    (s.rom.program s.op)[s.upc + k]? = q[k]? := by
  rw [← h.rest, List.getElem?_drop]

theorem State.Faces.current {s : State} {i : Instr} {q : List Instr} (h : s.Faces (i :: q)) (hi : i.format = .uw) :
    s.current = some i :=
  State.current_eq.2 ⟨h.getElem? 0, hi⟩

/-- Behind a stretch `p` of the micro-program stands the rest of it. -/
theorem State.Faces.skip {s t : State} {p q : List Instr} (h : s.Faces (p ++ q)) (hupc : t.upc = s.upc + p.length)
    (hsame : t.resetIn = s.resetIn ∧ t.latched = s.latched ∧ t.rom = s.rom ∧ t.op = s.op ∧ t.sub = s.sub ∧
      t.dlyPend = s.dlyPend) : t.Faces q := by
  obtain ⟨hreset, hlatched, hrom, hop, hsub, hpend⟩ := hsame
  refine ⟨⟨hreset ▸ h.turn.resetIn, hlatched ▸ h.turn.latched, hop ▸ h.turn.op⟩, ?_, hsub ▸ h.sub, hpend ▸ h.dlyPend⟩
  rw [hrom, hop, hupc, ← List.drop_drop, h.rest, List.drop_left]

/-! ### INIT's micro-program in stretches -/

/-- The micro-operations of the write cycle of a constant command (R92, R161). -/
def constWriteOps (c : Byte) : List Instr := [.setLine .rs false, .setLine .rw false, .wri c, .pulse]

/-- The micro-operations in front of the first wait: the clocks, the control pins, the bus (R160 step 1). -/
def setupOps : List Instr := [.clken, .cfgctl, .dir .output]

/-- One of the three rounds of the bootstrap: a wait, CODE_BOOT, the next phase (R160 steps 2 and 3). -/
def bootRoundOps (n : Byte) (p : Phase) : List Instr := .delay n :: (constWriteOps 0x30 ++ [.phase p])

/-- The micro-operations of a poll window whose loop begins at index `t`, as `pollWindowOps` at the start (R92, R141). -/
def pollWindowOpsAt (t : Byte) : List Instr :=
  [.dir .input, .setLine .rs false, .setLine .rw true, .pulse, .rdbus, .brbusy t, .setLine .rw false, .dir .output]

/-- A constant command behind such a poll window (R160 steps 5 to 8, R161). -/
def polledCommandOps (t c : Byte) : List Instr := pollWindowOpsAt t ++ constWriteOps c

theorem standard_init : Rom.standard.program .init =
    setupOps ++ (bootRoundOps 30 .bootstrappingA ++ (bootRoundOps 10 .bootstrappingB ++
      (bootRoundOps 1 .bootstrappingC ++ ([.phase .operational] ++ (polledCommandOps 25 0x38 ++
        (polledCommandOps 37 0x06 ++ (polledCommandOps 49 0x01 ++ (polledCommandOps 61 0x0F ++ [.endOp])))))))) := rfl

/-! ### What each stretch does

A run that begins with the stretch goes on behind it, with ENGINE in front of the rest of the micro-program. -/

/-- The state behind the setup. -/
def State.afterSetup (s : State) : State :=
  { s with
    pclkEn := 0b11, ctrlOe := true, dir := .output, rs := false, rw := false, en := false, pulseWrite := false
    trace := s.trace ++ [.clkEn, .ctlCfg, .dir .output], upc := s.upc + 3 }

theorem run_setup {s : State} {q : List Instr} (h : s.Faces (setupOps ++ q)) :
    (∀ n, runSteps (n + 3) s = runSteps n s.afterSetup) ∧ s.afterSetup.Faces q := by
  refine ⟨fun n => ?_, h.skip rfl ⟨rfl, rfl, rfl, rfl, rfl, rfl⟩⟩
  have hcfgctl : (s.enableClocks.emit .clkEn).advance.Faces (.cfgctl :: .dir .output :: q) :=
    h.skip (p := [.clken]) rfl ⟨rfl, rfl, rfl, rfl, rfl, rfl⟩
  have hdir : ((s.enableClocks.emit .clkEn).advance.configureControl.emit .ctlCfg).advance.Faces (.dir .output :: q) :=
    hcfgctl.skip (p := [.cfgctl]) rfl ⟨rfl, rfl, rfl, rfl, rfl, rfl⟩
  rw [run_oneStep (n + 2) .clken h.turn (h.current rfl) ⟨nofun, nofun⟩ rfl,
    run_oneStep (n + 1) .cfgctl hcfgctl.turn (hcfgctl.current rfl) ⟨nofun, nofun⟩ rfl,
    run_oneStep n (.dir .output) hdir.turn (hdir.current rfl) ⟨nofun, nofun⟩ rfl]
  congr 1
  ext1 <;> simp [State.afterSetup]

/-- PHASE is one step (R133). -/
theorem run_phase {s : State} {p : Phase} {q : List Instr} (h : s.Faces (.phase p :: q)) :
    (∀ n, runSteps (n + 1) s = runSteps n ((s.enterPhase p).emit (.phase p)).advance) ∧
      ((s.enterPhase p).emit (.phase p)).advance.Faces q :=
  ⟨fun n => run_oneStep n (.phase p) h.turn (h.current rfl) ⟨nofun, nofun⟩ rfl,
    h.skip (p := [.phase p]) rfl ⟨rfl, rfl, rfl, rfl, rfl, rfl⟩⟩

/-- The state behind a write cycle of `c`, its tick answered after `m` steps. -/
def State.afterConstWrite (s : State) (c : Byte) (m : Nat) (more : List Bool) : State :=
  { s with
    en := false, rs := false, rw := false, dout := c, pulseWrite := false, dlyN := 0, answers := more
    draws := s.draws + (m + 1), trace := s.trace ++ writeEvents false c, xfer := s.xfer ++ [.write false c]
    upc := s.upc + 4 }

theorem run_constWrite {s : State} {m : Nat} {more : List Bool} {c : Byte} {q : List Instr}
    (h : s.Faces (constWriteOps c ++ q)) (hdir : s.dir = .output) (hoe : s.ctrlOe = true)
    (ha : s.answers = answersAfter [m] ++ more) :
    (∀ n, runSteps (n + (m + 8)) s = runSteps n (s.afterConstWrite c m more)) ∧ (s.afterConstWrite c m more).Faces q :=
  ⟨fun n => run_writeCycle n m false c (.wri c) h.turn (h.getElem? 0) (h.getElem? 1) (h.getElem? 2) (h.getElem? 3)
      (.inl rfl) h.sub h.dlyPend hdir hoe (ha.trans (answersAfter_singleton_append m more)),
    h.skip rfl ⟨rfl, rfl, rfl, rfl, rfl, rfl⟩⟩

/-- The state behind a round of the bootstrap, its two calls answered after `ms` steps. -/
def State.afterBootRound (s : State) (k : Byte) (p : Phase) (ms : List Nat) (more : List Bool) : State :=
  { s with
    en := false, rs := false, rw := false, dout := 0x30, pulseWrite := false, dlyN := 0, phase := p, answers := more
    draws := s.draws + (ms.sum + 2), trace := s.trace ++ [.delay k.toNat] ++ writeEvents false 0x30 ++ [.phase p]
    xfer := s.xfer ++ [.write false 0x30], upc := s.upc + 6 }

theorem run_bootRound {s : State} {more : List Bool} {k : Byte} {p : Phase} {ms : List Nat} {q : List Instr}
    (h : s.Faces (bootRoundOps k p ++ q)) (hdir : s.dir = .output) (hoe : s.ctrlOe = true) (hm : ms.length = 2)
    (ha : s.answers = answersAfter ms ++ more) :
    (∀ n, runSteps (n + (ms.sum + 12)) s = runSteps n (s.afterBootRound k p ms more)) ∧
      (s.afterBootRound k p ms more).Faces q := by
  refine ⟨fun n => ?_, h.skip rfl ⟨rfl, rfl, rfl, rfl, rfl, rfl⟩⟩
  obtain ⟨m₁, m₂, rfl⟩ := List.length_eq_two.1 hm
  have hwrite : ({ s with
      dlyN := k.zeroExtend 16, dlyPend := false, answers := answersAfter [m₂] ++ more, draws := s.draws + (m₁ + 1)
      upc := s.upc + 1, trace := s.trace ++ [.delay k.toNat] } : State).Faces (constWriteOps 0x30 ++ (.phase p :: q)) :=
    h.skip (p := [.delay k]) rfl ⟨rfl, rfl, rfl, rfl, rfl, h.dlyPend.symm⟩
  obtain ⟨writes, hphase⟩ := run_constWrite hwrite hdir hoe rfl
  rw [show n + ([m₁, m₂].sum + 12) = n + 1 + (m₂ + 8) + (m₁ + 3) by simp; omega,
    run_delay _ m₁ k h.turn (h.current rfl) h.sub
      (more := answersAfter [m₂] ++ more) (by simp [ha, answersAfter]), writes, (run_phase hphase).1]
  congr 1
  ext1 <;> simp [State.afterBootRound, State.afterConstWrite, h.dlyPend]
  omega

/-- The state behind the poll window with the samples `bs` and the command `c`, the calls answered after `ms` steps. -/
def State.afterPolledCommand (s : State) (c : Byte) (bs rest : List Byte) (ms : List Nat) (more : List Bool) : State :=
  { s with
    dir := .output, rs := false, rw := false, en := false, pulseWrite := false, dout := c, dlyN := 0
    status := bs.getLastD s.status, samples := rest, answers := more, draws := s.draws + (ms.sum + (2 * bs.length + 1))
    trace := s.trace ++ pollEvents bs ++ writeEvents false c
    xfer := s.xfer ++ pollEntries bs ++ [.write false c], upc := s.upc + 12 }

theorem run_polledCommand {s : State} {more : List Bool} {t c : Byte} {bs rest : List Byte} {ms : List Nat}
    {q : List Instr} (h : s.Faces (polledCommandOps t c ++ q)) (ht : t.toNat = s.upc + 3) (hoe : s.ctrlOe = true)
    (hb : PollsUntilReady bs) (hm : ms.length = bs.length + 1) (hx : s.samples = bs ++ rest)
    (ha : s.answers = answersAfter ms ++ more) :
    (∀ n, runSteps (n + (ms.sum + (13 + 6 * bs.length))) s = runSteps n (s.afterPolledCommand c bs rest ms more)) ∧
      (s.afterPolledCommand c bs rest ms more).Faces q := by
  refine ⟨fun n => ?_, h.skip rfl ⟨rfl, rfl, rfl, rfl, rfl, rfl⟩⟩
  obtain ⟨ms, m, rfl⟩ : ∃ l m, ms = l ++ [m] :=
    ⟨_, _, (List.dropLast_append_getLast (List.ne_nil_of_length_eq_add_one hm)).symm⟩
  have hlen : ms.length = bs.length := by simpa using hm
  have hwindow : ∀ k < 8, (s.rom.program s.op)[s.upc + k]? = (pollWindowOpsAt t)[k]? := by
    intro k hk
    rw [h.getElem?, polledCommandOps, List.append_assoc]
    exact List.getElem?_append_left hk
  rw [show n + ((ms ++ [m]).sum + (13 + 6 * bs.length)) = n + (m + 8) + (ms.sum + (5 + 6 * bs.length)) by simp; omega,
    run_pollWindow (n + (m + 8)) t ms bs (more := answersAfter [m] ++ more) hlen hb h.turn ht hwindow h.sub h.dlyPend
      (by simp [ha, answersAfter]) hx]
  refine ((run_constWrite (s := _) (c := c) (q := q) (m := m) (more := more) ?_ ?_ ?_ ?_).1 n).trans ?_
  · exact h.skip (p := pollWindowOpsAt t) rfl ⟨rfl, rfl, rfl, rfl, rfl, rfl⟩
  · rfl
  · exact hoe
  · rfl
  · congr 1
    ext1 <;> simp [State.afterPolledCommand, State.afterConstWrite]
    omega

/-! ### The operation -/

theorem exists_append_of_length_eq_add {α : Type} {l : List α} {a b : Nat} (h : l.length = a + b) :
    ∃ u v, l = u ++ v ∧ u.length = a ∧ v.length = b :=
  ⟨l.take a, l.drop a, (List.take_append_drop a l).symm, by simp [h], by simp [h]⟩

theorem answersAfter_append (ms ns : List Nat) : answersAfter (ms ++ ns) = answersAfter ms ++ answersAfter ns :=
  List.flatMap_append

/-- A poll window leaves its last sample in STATUS, whatever stood there before. -/
theorem PollsUntilReady.getLast?_getD_eq {bs : List Byte} (h : PollsUntilReady bs) (x y : Byte) :
    bs.getLast?.getD x = bs.getLast?.getD y := by
  obtain ⟨busy, b, rfl, -⟩ := h
  simp

/-- In phase Uninitialized INIT is accepted (R187), and ENGINE is in front of its whole micro-program. -/
theorem State.Offered.run_init {s : State} {h : HostProgram} (hs : s.Offered 0x100 h) (hrom : s.rom = .standard)
    (hp : s.phase = .uninitialized) (hd : s.dlyPend = false) :
    (∀ n, runSteps (n + 1) s = runSteps n ({ s with host := h }.accept .init 0)) ∧
      ({ s with host := h }.accept .init 0).Faces (Rom.standard.program .init) :=
  ⟨hs.run_request (decodeOfEncode .init) ((admittedRequestsAccepted { s with host := h } 0 hs.op).1 hp),
    hs.engineTurn (o := .init) nofun 0, hrom ▸ rfl, rfl, hd⟩

/-- Settles O58: the offer is accepted; then the setup, the three rounds of the bootstrap, phase Operational and the four
polled commands are all of the micro-program up to its END. -/
theorem initBringsUpController : Obligations.InitBringsUpController := by
  intro s h w₁ w₂ w₃ w₄ rest ms more hs hrom hp hd hw₁ hw₂ hw₃ hw₄ hx hm ha
  have hlen : ms.length = 2 + (2 + (2 + ((w₁.length + 1) + ((w₂.length + 1) + ((w₃.length + 1) + (w₄.length + 1)))))) :=
    hm.trans (by omega)
  obtain ⟨msA, ms, rfl, hmA, hlen⟩ := exists_append_of_length_eq_add hlen
  obtain ⟨msB, ms, rfl, hmB, hlen⟩ := exists_append_of_length_eq_add hlen
  obtain ⟨msC, ms, rfl, hmC, hlen⟩ := exists_append_of_length_eq_add hlen
  obtain ⟨ms₁, ms, rfl, hm₁, hlen⟩ := exists_append_of_length_eq_add hlen
  obtain ⟨ms₂, ms, rfl, hm₂, hlen⟩ := exists_append_of_length_eq_add hlen
  obtain ⟨ms₃, ms₄, rfl, hm₃, hm₄⟩ := exists_append_of_length_eq_add hlen
  simp only [answersAfter_append, List.append_assoc] at ha hx
  obtain ⟨accepted, hinit⟩ := hs.run_init hrom hp hd
  obtain ⟨setup, hA⟩ := run_setup (standard_init ▸ hinit)
  obtain ⟨roundA, hB⟩ := run_bootRound hA rfl rfl hmA ha
  obtain ⟨roundB, hC⟩ := run_bootRound hB rfl rfl hmB rfl
  obtain ⟨roundC, hphase⟩ := run_bootRound hC rfl rfl hmC rfl
  obtain ⟨operational, h₁⟩ := run_phase hphase
  obtain ⟨command₁, h₂⟩ := run_polledCommand h₁ rfl rfl hw₁ hm₁ hx rfl
  obtain ⟨command₂, h₃⟩ := run_polledCommand h₂ rfl rfl hw₂ hm₂ rfl rfl
  obtain ⟨command₃, h₄⟩ := run_polledCommand h₃ rfl rfl hw₃ hm₃ rfl rfl
  obtain ⟨command₄, hend⟩ := run_polledCommand h₄ rfl rfl hw₄ hm₄ rfl rfl
  rw [show (msA ++ (msB ++ (msC ++ (ms₁ ++ (ms₂ ++ (ms₃ ++ ms₄)))))).sum +
        (94 + 6 * (w₁.length + w₂.length + w₃.length + w₄.length)) =
      1 + (ms₄.sum + (13 + 6 * w₄.length)) + (ms₃.sum + (13 + 6 * w₃.length)) + (ms₂.sum + (13 + 6 * w₂.length)) +
        (ms₁.sum + (13 + 6 * w₁.length)) + 1 + (msC.sum + 12) + (msB.sum + 12) + (msA.sum + 12) + 3 + 1 by
      simp only [List.sum_append]; omega,
    accepted, setup, roundA, roundB, roundC, operational,
    command₁, command₂, command₃, command₄, run_endOp hend.turn (hend.current rfl)]
  congr 1
  simp [State.finish, State.afterPolledCommand, State.afterBootRound, State.afterSetup, hs.op]
  exact ⟨hw₄.getLast?_getD_eq _ _, by omega⟩

end Sys2Proof.Machine

/-! ## The application loop R170: RUN's moves, REQ_VALID, and HOST's own delay call -/

namespace Sys2Proof.Machine

/-! ### HOST's next move -/

theorem HostProgram.next_of_todo_cons (m : HostMove) (rest l : List HostMove) (e : Bool) :
    (⟨m :: rest, l, e⟩ : HostProgram).next = some (m, ⟨rest, l, e⟩) := rfl

/-- Where the moves to make once are over, HOST begins the moves to repeat. -/
theorem HostProgram.next_of_todo_nil (l : List HostMove) (e : Bool) :
    (⟨[], l, e⟩ : HostProgram).next = (⟨l, l, e⟩ : HostProgram).next := by
  cases l <;> rfl

theorem HostProgram.next_drop {moves : List HostMove} {k : Nat} {m : HostMove} (h : moves[k]? = some m)
    (l : List HostMove) (e : Bool) :
    (⟨moves.drop k, l, e⟩ : HostProgram).next = some (m, ⟨moves.drop (k + 1), l, e⟩) := by
  obtain ⟨hk, rfl⟩ := List.getElem?_eq_some_iff.1 h
  rw [List.drop_eq_getElem_cons hk, next_of_todo_cons]

/-! ### REQ_VALID -/

theorem State.reqValid_iff (s : State) :
    s.reqValid = true ↔ s.hostIssues = true ∧ ∃ w h, s.host.next = some (.request w, h) := by
  unfold State.reqValid State.reqWord
  cases s.hostIssues with
  | false => simp
  | true =>
    cases s.host.next with
    | none => simp
    | some p =>
      obtain ⟨m, h⟩ := p
      cases m <;> simp

/-- A HOST that does not offer early issues a request only at the idle block, with no call of its own outstanding (R170). -/
theorem State.hostIssues_iff_of_not_early {s : State} (he : s.host.early = false) :
    s.hostIssues = true ↔ s.busyOut = false ∧ s.hostPend = false := by
  simp [State.hostIssues, he, and_comm]

/-! ### RUN -/

theorem toNat_word (c : BitVec 4) (x : Byte) : (word c x).toNat = 0x100 * c.toNat + x.toNat := by
  rw [word, BitVec.toNat_append, ← Nat.shiftLeft_add_eq_or_of_lt x.isLt, Nat.shiftLeft_eq, Nat.mul_comm]

/-- Settles O40: RUN never offers early, and its iteration is the moves HOST repeats. -/
theorem runRepeatsItsIteration : Obligations.RunRepeatsItsIteration := by
  intro msg pace
  refine ⟨rfl, fun k m hm => HostProgram.next_drop hm _ _, HostProgram.next_of_todo_nil _ _, fun s hs => ?_, ?_⟩
  · have he : s.host.early = false := by
      obtain h | ⟨k, h⟩ := hs <;> exact congrArg HostProgram.early h
    rw [s.reqValid_iff, State.hostIssues_iff_of_not_early he, and_assoc]
  · simp [runIteration, toNat_word, Config.codeClear]

/-! ### HOST's pause -/

/-- Settles O39: at the idle block the step is HOST's, and while HOST's call is outstanding it is agent DELAY's. -/
theorem hostPauseHoldsRequests : Obligations.HostPauseHoldsRequests := by
  intro s n h hr hl ho
  rw [step_eq_hostStep hr hl ho]
  refine ⟨fun hp hm => ?_, fun hp => ?_⟩
  · simp [hostStep, hp, hm, hostMove, State.hostCallDelay, State.emit]
  · simp [hostStep, hp, State.hostDelayMove]

end Sys2Proof.Machine

/-! ## The exception rules R182 to R187: turning a request away, the hangs of the status poll and of the delay service -/

namespace Sys2Proof.Machine

/-! ### The admission table, read for refusals -/

/-- Settles O13: the admission table gives the reason (R186), and turning away records it and no more. -/
theorem refusedRequestsChangeNothing : Obligations.RefusedRequestsChangeNothing := by
  intro s b hs
  have hexec {i : Instr} {o : OpCode} {a : Byte} {r : Reason} (hi : exec i s = .next (s.offer o a))
      (ho : s.objection o = some r) : exec i s = .next (s.turnAway r) := by
    rw [hi, State.offer_refused hs ho]
  refine ⟨fun hp => hexec rfl (if_neg hp), fun hp => hexec rfl (if_pos hp), fun ⟨hp, hpins⟩ => hexec rfl ?_,
    fun hp => ⟨?_, ?_, ?_⟩⟩
  · have hnot : ¬(s.ctrlOe = true ∧ s.dir = .output) := by
      rintro ⟨hoe, hdir⟩
      simp [hoe, hdir] at hpins
    exact (if_neg hp).trans (if_neg hnot)
  · exact hexec rfl (if_neg hp)
  · exact hexec rfl (if_neg hp)
  · exact hexec rfl (if_neg hp)

/-! ### A delay service that does not answer -/

/-- Where agent DELAY chooses not to answer, only its choice is used up. -/
theorem State.delayMove_unanswered {s : State} {rest : List Bool} (h : s.answers = false :: rest) :
    s.delayMove = { s with answers := rest, draws := s.draws + 1 } := by
  simp [State.delayMove, State.nextAnswer, h]

/-- Settles O60: each step is a move of agent DELAY that leaves the call outstanding, so the next step is one too. -/
theorem unansweredDelayWaits : Obligations.UnansweredDelayWaits := by
  intro n
  induction n with
  | zero => exact fun _ _ _ _ _ _ _ => rfl
  | succ n ih =>
    intro s i h hi hwait hfalse hn
    obtain ⟨a, rest, ha⟩ := List.exists_cons_of_length_pos (Nat.zero_lt_of_lt hn)
    rw [ha] at hfalse hn
    obtain ⟨rfl, hrest⟩ := List.forall_mem_cons.1 hfalse
    rw [runSteps_next (step_eq_delayMove h hi hwait), State.delayMove_unanswered ha]
    refine (ih _ i ?_ ?_ ?_ ?_ ?_).trans ?_
    · exact ⟨h.resetIn, h.latched, h.op⟩
    · exact hi
    · exact hwait
    · exact hrest
    · exact Nat.le_of_succ_le_succ hn
    · simp [ha, Nat.add_assoc, Nat.add_comm 1 n]

/-! ### A controller that never says ready -/

/-- The three micro-operations of a poll cycle stand at each of its starts: PULSE, RDBUS, and a BRBUSY back to the PULSE. -/
theorem standard_pollCycle {o : OpCode} {k : Nat} (hk : k ∈ pollStarts o) :
    (Rom.standard.program o)[k]? = some .pulse ∧ (Rom.standard.program o)[k + 1]? = some .rdbus ∧
    ∃ t : Byte, branchTarget t = k ∧ (Rom.standard.program o)[k + 2]? = some (.brbusy t) := by
  refine ⟨(pollStart_expected hk).1, ?_⟩
  cases o with
  | idle | cmdu => cases hk
  | init =>
    simp only [pollStarts, List.mem_cons, List.not_mem_nil, or_false] at hk
    obtain rfl | rfl | rfl | rfl := hk <;> exact ⟨rfl, _, rfl, rfl⟩
  | await | cmd | data => cases List.mem_singleton.1 hk; exact ⟨rfl, _, rfl, rfl⟩

/-- UPC is in the poll cycle that opens at `k`; behind the sample, the sample was busy. -/
def State.InCycle (k : Nat) (s : State) : Prop :=
  s.upc = k ∨ (s.upc = k + 1 ∧ s.sub = .zero) ∨ (s.upc = k + 2 ∧ s.sub = .zero ∧ s.busyFlag = true)

theorem State.InCycle.bounds {k : Nat} {s : State} (h : s.InCycle k) : k ≤ s.upc ∧ s.upc ≤ k + 2 := by
  unfold State.InCycle at h
  omega

/-- What a step inside the poll cycle at `k` changes and leaves alone: it draws at most one sample. -/
structure LoopStep (k : Nat) (s t : State) : Prop where
  cycle : t.InCycle k
  pulseWrite : t.pulseWrite = false
  latched : t.latched = []
  samples : t.samples = s.samples ∨ t.samples = s.samples.tail := by exact .inl rfl
  rom : t.rom = s.rom := by exact rfl
  op : t.op = s.op := by exact rfl
  dir : t.dir = s.dir := by exact rfl
  rs : t.rs = s.rs := by exact rfl
  rw : t.rw = s.rw := by exact rfl
  resetIn : t.resetIn = s.resetIn := by exact rfl
  host : t.host = s.host := by exact rfl

namespace State.InPollLoop

variable {k : Nat} {s t : State}

theorem op_ne_idle (h : s.InPollLoop) : s.op ≠ .idle := by
  obtain ⟨k, hk, -⟩ := h.place
  intro ho
  rw [ho] at hk
  cases hk

theorem engineTurn (h : s.InPollLoop) : s.EngineTurn := ⟨h.resetIn, h.latched, h.op_ne_idle⟩

theorem loopStep (h : s.InPollLoop) (hk : k ∈ pollStarts s.op) (hst : LoopStep k s t) : t.InPollLoop where
  rom := hst.rom.trans h.rom
  place := ⟨k, hst.op ▸ hk, hst.cycle⟩
  dir := hst.dir.trans h.dir
  rs := hst.rs.trans h.rs
  rw := hst.rw.trans h.rw
  pulseWrite := hst.pulseWrite
  resetIn := hst.resetIn.trans h.resetIn
  latched := hst.latched

/-- At the PULSE: a wait or a sub-step stays there, the fall goes on to the RDBUS and latches no write, because RW = 1. -/
theorem step_pulse (h : s.InPollLoop) (hi : s.current = some .pulse) (hupc : s.upc = k) :
    ∃ t, step s = .next t ∧ LoopStep k s t := by
  cases hwait : s.waitsAt .pulse with
  | true =>
    exact ⟨_, step_eq_delayMove h.engineTurn hi hwait,
      { cycle := .inl hupc, pulseWrite := h.pulseWrite, latched := h.latched }⟩
  | false =>
    rw [step_eq_exec h.engineTurn hi hwait]
    cases hsub : s.sub with
    | zero =>
      have hread : s.writeSelected = false := by simp [State.writeSelected, h.rw]
      exact ⟨_, exec_pulse_zero hsub, { cycle := .inl hupc, pulseWrite := hread, latched := h.latched }⟩
    | one =>
      exact ⟨_, exec_pulse_one hsub, { cycle := .inl hupc, pulseWrite := h.pulseWrite, latched := h.latched }⟩
    | two =>
      have hd : s.dlyPend = false := by simpa [State.waitsAt, hsub] using hwait
      exact ⟨_, exec_pulse_two hsub hd,
        { cycle := .inr (.inl ⟨congrArg (· + 1) hupc, rfl⟩)
          pulseWrite := rfl
          latched := by simp [h.pulseWrite, h.latched] }⟩

/-- At the RDBUS: the busy sample is drawn. -/
theorem step_rdbus (h : s.InPollLoop) (hi : s.current = some .rdbus) (hupc : s.upc = k + 1) (hsub : s.sub = .zero)
    (hbusy : isBusy s.nextSample = true) : ∃ t, step s = .next t ∧ LoopStep k s t := by
  rw [step_eq_exec h.engineTurn hi rfl]
  exact ⟨_, exec_rdbus h.dir,
    { cycle := .inr (.inr ⟨congrArg (· + 1) hupc, hsub, hbusy⟩)
      pulseWrite := h.pulseWrite
      latched := h.latched
      samples := .inr rfl }⟩

/-- At the BRBUSY: the sample was busy, so the branch to the PULSE is taken. -/
theorem step_brbusy {b : Byte} (h : s.InPollLoop) (hi : s.current = some (.brbusy b)) (hb : branchTarget b = k)
    (hbusy : s.busyFlag = true) : ∃ t, step s = .next t ∧ LoopStep k s t := by
  rw [step_eq_exec h.engineTurn hi rfl]
  exact ⟨_, rfl, { cycle := .inl ((if_pos hbusy).trans hb), pulseWrite := h.pulseWrite, latched := h.latched }⟩

/-- With a busy sample to come, every step stays in the poll cycle. -/
theorem step_next (h : s.InPollLoop) (hk : k ∈ pollStarts s.op) (hc : s.InCycle k)
    (hbusy : isBusy s.nextSample = true) : ∃ t, step s = .next t ∧ LoopStep k s t := by
  obtain ⟨hpulse, hrdbus, b, hb, hbrbusy⟩ := standard_pollCycle hk
  obtain hupc | ⟨hupc, hsub⟩ | ⟨hupc, -, hflag⟩ := hc
  · exact h.step_pulse (current_of_standard h.rom (hupc ▸ hpulse)) hupc
  · exact h.step_rdbus (current_of_standard h.rom (hupc ▸ hrdbus)) hupc hsub hbusy
  · exact h.step_brbusy (current_of_standard h.rom (hupc ▸ hbrbusy)) hb hflag

end State.InPollLoop

/-- A step in the loop leaves busy samples for all the steps behind it. -/
theorem LoopStep.busy_samples {k n : Nat} {s t : State} (hst : LoopStep k s t) (hbusy : ∀ b ∈ s.samples, isBusy b = true)
    (hn : n + 1 ≤ s.samples.length) : (∀ b ∈ t.samples, isBusy b = true) ∧ n ≤ t.samples.length := by
  obtain h | h := hst.samples <;> rw [h]
  · exact ⟨hbusy, Nat.le_of_succ_le hn⟩
  · exact ⟨fun b hb => hbusy b (List.mem_of_mem_tail hb), List.length_tail ▸ Nat.le_sub_one_of_lt hn⟩

theorem State.isBusy_nextSample {s : State} (hbusy : ∀ b ∈ s.samples, isBusy b = true) (hn : 0 < s.samples.length) :
    isBusy s.nextSample = true := by
  obtain ⟨x, rest, hx⟩ := List.exists_cons_of_length_pos hn
  simpa [State.nextSample, hx] using hbusy x (by simp [hx])

/-- The poll cycle holds the block for as many steps as there are busy samples to come. -/
theorem run_busyLoop (n : Nat) {k : Nat} {s : State} (h : s.InPollLoop) (hk : k ∈ pollStarts s.op) (hc : s.InCycle k)
    (hbusy : ∀ b ∈ s.samples, isBusy b = true) (hn : n ≤ s.samples.length) :
    ∃ t, runSteps n s = .next t ∧ t.InPollLoop ∧ t.InCycle k ∧ t.op = s.op ∧ t.host = s.host := by
  induction n generalizing s with
  | zero => exact ⟨s, rfl, h, hc, rfl, rfl⟩
  | succ n ih =>
    obtain ⟨u, hu, hst⟩ := h.step_next hk hc (State.isBusy_nextSample hbusy (Nat.zero_lt_of_lt hn))
    obtain ⟨hbusy', hn'⟩ := hst.busy_samples hbusy hn
    obtain ⟨t, ht, hloop, hcycle, hop, hhost⟩ := ih (h.loopStep hk hst) (hst.op ▸ hk) hst.cycle hbusy' hn'
    exact ⟨t, (runSteps_next hu n).trans ht, hloop, hcycle, hop.trans hst.op, hhost.trans hst.host⟩

/-- Settles O59: the run stays in the one poll cycle it began in, and a poll cycle is three micro-operations long. -/
theorem neverReadyHangs : Obligations.NeverReadyHangs := by
  intro n s h hbusy hn
  obtain ⟨k, hk, hc⟩ := h.place
  obtain ⟨t, ht, hloop, hcycle, hop, hhost⟩ := run_busyLoop n h hk hc hbusy hn
  obtain ⟨hslo, hshi⟩ := State.InCycle.bounds hc
  obtain ⟨htlo, hthi⟩ := hcycle.bounds
  exact ⟨t, ht, hloop, hop, State.busyOut_of_running hloop.op_ne_idle, hhost, by omega, by omega⟩

end Sys2Proof.Machine

/-! ## RESET whatever runs (R210) -/

namespace Sys2Proof.Machine

/-- RESET comes before every agent: raised, it makes the step. -/
theorem step_eq_powerUp {s : State} (h : s.resetIn = true) : step s = .next s.powerUp :=
  if_pos h

/-- Settles O37: the step is RESET's, and what it leaves is read field by field. -/
theorem resetWhateverRuns : Obligations.ResetWhateverRuns :=
  fun s h => ⟨s.powerUp, step_eq_powerUp h, by simp⟩

end Sys2Proof.Machine
